-- ==== Sys2Proof/Word.lean ====
section
/-! DEFINITION. The byte and the small sets of names the specification gives its fields (00_scope.md R10, R11;
10_state.md R21, R25, R30, R33, R40; 60_exceptions.md R232 to R239). Everything a test could show wrong stands in
Decode.lean or under Machine/. -/

namespace Sys2Proof

/-- A byte: unsigned, bit 0 the least significant (00_scope.md R10). -/
abbrev Byte := BitVec 8

/-- The parser's frame state (10_state.md R21). -/
inductive PState where
  | idle
  | waitData1
  | waitData2
  deriving DecidableEq, Repr, Inhabited

/-- The engine's wave mode (10_state.md R25). -/
inductive Mode where
  | idle
  | square
  | sine
  deriving DecidableEq, Repr, Inhabited

/-- The H-bridge leg assignment (10_state.md R40). -/
inductive Bridge where
  | neutral
  | pos
  | neg
  deriving DecidableEq, Repr, Inhabited

/-- A half of the square window (10_state.md R33, 43_square_drive.md R181). -/
inductive Half where
  | first
  | second
  deriving DecidableEq, Repr, Inhabited

/-- A polarity sign: -1, 0 or +1 (10_state.md R30). -/
inductive Sign where
  | minus
  | zero
  | plus
  deriving DecidableEq, Repr, Inhabited

/-- The three interrupt sources (60_exceptions.md R232). -/
inductive Source where
  | rx
  | timerA
  | timerB
  deriving DecidableEq, Repr, Inhabited

/-- One move of one agent of the node (10_state.md R20): the handler context, the deferred window processor, the
environment or the host. -/
inductive Action where
  /-- The handler context serves one request (60_exceptions.md R233). -/
  | service (src : Source)
  /-- The deferred window processor runs (60_exceptions.md R239). -/
  | process
  /-- A byte arrives with the line's framing and parity verdicts (60_exceptions.md R234). -/
  | rxArrive (b : Byte) (fe pe : Bool)
  /-- Timer A expires (60_exceptions.md R235). -/
  | expireA
  /-- Timer B expires (60_exceptions.md R236). -/
  | expireB
  /-- The host writes the global interrupt enable (60_exceptions.md R237). -/
  | hostSetGie (v : Bool)
  /-- The host reads the color index and acknowledges the flag (60_exceptions.md R237). -/
  | hostAckColor
  deriving DecidableEq, Repr, Inhabited

/-- The verdict of the receive front end on the byte it holds (40_frame_parser.md R100). -/
inductive RxVerdict where
  | overrun
  | framing
  | parity
  | accepted
  deriving DecidableEq, Repr, Inhabited

end Sys2Proof
end

