-- ==== Sys2Proof/Syntax.lean ====
section
/-! DEFINITION. The commands of the parser: one constructor for each row of spec/opcode_table.json
(30_encoding.md R86). -/

namespace Sys2Proof

/-- A received byte, decoded. Reserved bits are kept as operands, so that no bit of a byte is lost; no meaning reads
them (30_encoding.md R88, log 11). -/
inductive Instr where
  /-- ADDR_FWD: an address byte for another node (40_frame_parser.md R110). -/
  | addrFwd (addr : BitVec 6) (start : Bool)
  /-- STOP: stop directed at this node (40_frame_parser.md R111). -/
  | stop
  /-- START: start directed at this node (40_frame_parser.md R112). -/
  | start
  /-- DATA_PASS: a data byte while unaddressed (40_frame_parser.md R113). -/
  | dataPass (byte : Byte)
  /-- DATA1: the first payload byte (40_frame_parser.md R114). -/
  | data1 (reserved : BitVec 2) (duty : BitVec 5)
  /-- DATA2: the second payload byte (40_frame_parser.md R115). -/
  | data2 (reserved : BitVec 3) (wave : Bool) (freq : BitVec 3)
  deriving DecidableEq, Repr, Inhabited

end Sys2Proof
end

