-- ==== Sys2Proof/WellFormed.lean ====
section
/-! DEFINITION. Which commands some byte encodes (the condition column of spec/opcode_table.json), and in which parser
state each is read. -/

namespace Sys2Proof

/-- The checks on operands: ADDR_FWD has a nonzero address, DATA_PASS carries a data byte (30_encoding.md R86). The
operands of the other commands are free at their widths. -/
def Instr.wellFormed : Instr → Bool
  | .addrFwd addr _ => addr != 0
  | .stop => true
  | .start => true
  | .dataPass byte => byte.getLsbD 7
  | .data1 _ _ => true
  | .data2 _ _ _ => true

/-- The parser states in which the command is read (the pstate column of 30_encoding.md R86). -/
def Instr.readIn : Instr → PState → Bool
  | .addrFwd _ _, _ => true
  | .stop, _ => true
  | .start, _ => true
  | .dataPass _, p => p == .idle
  | .data1 _ _, p => p == .waitData1
  | .data2 _ _ _, p => p == .waitData2

end Sys2Proof
end

