-- ==== Sys2Proof/Decode.lean ====
section
/-! DEFINITION. Decoding of a received byte by the parser state (30_encoding.md R80 to R90), the encoder, and the
notation for byte streams (R91, R92). -/

namespace Sys2Proof

/-! ## Fields (30_encoding.md R80 to R83) -/

/-- Bit 7, the marker: set on a data byte, clear on an address byte (R80). -/
def markerOf (b : Byte) : Bool := b.getLsbD 7

/-- `b[6:1]`, the hop-count address of format A (R81). -/
def addrOf (b : Byte) : BitVec 6 := b.extractLsb' 1 6

/-- `b[0]`, the start bit of format A (R81). -/
def startOf (b : Byte) : Bool := b.getLsbD 0

/-- `b[6:5]`, the reserved bits of format D1 (R82). -/
def reserved1Of (b : Byte) : BitVec 2 := b.extractLsb' 5 2

/-- `b[4:0]`, the duty of format D1 (R82). -/
def dutyOf (b : Byte) : BitVec 5 := b.extractLsb' 0 5

/-- `b[6:4]`, the reserved bits of format D2 (R83). -/
def reserved2Of (b : Byte) : BitVec 3 := b.extractLsb' 4 3

/-- `b[3]`, the wave bit of format D2: 1 = Sine (R83). -/
def waveOf (b : Byte) : Bool := b.getLsbD 3

/-- `b[2:0]`, the frequency index of format D2 (R83). -/
def freqOf (b : Byte) : BitVec 3 := b.extractLsb' 0 3

/-! ## The decoder (30_encoding.md R86) -/

/-- The command that byte `b` is in parser state `p`. Total: no byte is illegal (R89). -/
def decodeByte (p : PState) (b : Byte) : Instr :=
  if markerOf b then
    match p with
    | .idle => .dataPass b
    | .waitData1 => .data1 (reserved1Of b) (dutyOf b)
    | .waitData2 => .data2 (reserved2Of b) (waveOf b) (freqOf b)
  else if addrOf b ≠ 0 then .addrFwd (addrOf b) (startOf b)
  else if startOf b then .start
  else .stop

/-- Why a stream of bytes yields no command: it holds no byte. Every byte decodes (R89). -/
inductive DecodeReject where
  | noByte
  deriving DecidableEq, Repr

/-- The first command of a stream and the rest of it. Only the first byte can be decoded ahead: the parser state for the
next one is what this command leaves (R90). -/
def decode (p : PState) : List Byte → Except DecodeReject (Instr × List Byte)
  | [] => .error .noByte
  | b :: rest => .ok (decodeByte p b, rest)

/-! ## The encoder (30_encoding.md R81 to R83) -/

/-- Format A: marker 0, address, start bit (R81). -/
def addressByte (addr : BitVec 6) (start : Bool) : Byte := 0#1 ++ addr ++ BitVec.ofBool start

/-- Format D1: marker 1, reserved, duty (R82). -/
def data1Byte (reserved : BitVec 2) (duty : BitVec 5) : Byte := 1#1 ++ reserved ++ duty

/-- Format D2: marker 1, reserved, wave, frequency (R83). -/
def data2Byte (reserved : BitVec 3) (wave : Bool) (freq : BitVec 3) : Byte :=
  1#1 ++ reserved ++ BitVec.ofBool wave ++ freq

/-- The byte of a well-formed command. -/
def encodeByte : Instr → Byte
  | .addrFwd addr start => addressByte addr start
  | .stop => addressByte 0 false
  | .start => addressByte 0 true
  | .dataPass byte => byte
  | .data1 reserved duty => data1Byte reserved duty
  | .data2 reserved wave freq => data2Byte reserved wave freq

/-- The words of a well-formed command: every command is one byte (20_memory.md R64). -/
def encode (i : Instr) : List Byte := [encodeByte i]

/-! ## Notation for byte streams (30_encoding.md R91, R92) -/

/-- `FRAME a, d, w, f`. -/
def frameBytes (a : BitVec 6) (d : BitVec 5) (w : Bool) (f : BitVec 3) : List Byte :=
  [addressByte a true, data1Byte 0 d, data2Byte 0 w f]

/-- `SINE a, d, f`. -/
def sineFrame (a : BitVec 6) (d : BitVec 5) (f : BitVec 3) : List Byte := frameBytes a d true f

/-- `SQUARE a, d, f`. -/
def squareFrame (a : BitVec 6) (d : BitVec 5) (f : BitVec 3) : List Byte := frameBytes a d false f

/-- `STOPAT a`. -/
def stopAt (a : BitVec 6) : List Byte := [addressByte a false]

/-! ## The opcode table's numbering -/

/-- The command whose bits are `w`, numbered as spec/opcode_table.json numbers them, read in the parser state after
reset, IDLE (log 7). Bits at and above `nbits` are 0. -/
def decodeTableWord (nbits w : Nat) : Option Instr :=
  match decode .idle [BitVec.ofNat 8 (w % 2 ^ nbits)] with
  | .ok (i, _) => some i
  | .error _ => none

end Sys2Proof
end

