-- ==== Sys2Proof/Config.lean ====
section
/-! DEFINITION. What an implementation fixes: the parameters of 00_scope.md R8 with exactly the constraints stated there,
and the free values. Each free value is a constant without a body, so nothing is known of it (logs 1 and 5). -/

namespace Sys2Proof.Config

/-! ## Fixed parameters (00_scope.md R8) -/

/-- `WIN_HALF`. -/
abbrev winHalf : Nat := 100

/-- `WIN_LEN`. -/
abbrev winLen : Nat := 200

/-! ## Open parameters (00_scope.md R8) -/

/-- The parameters a model takes as arguments, with their constraints. -/
structure Params where
  /-- `CAL`: the duty calibration curve. -/
  cal : Fin 32 → Nat
  /-- `PWM_TOP`. -/
  pwmTop : Nat
  /-- `PWM_ACTIVE_LOW`. -/
  pwmActiveLow : Bool
  /-- `SQ_ON_WIDTH`. -/
  sqOnWidth : Nat
  /-- `SQ_OFF_WIDTH`. -/
  sqOffWidth : Nat
  /-- `SINE_LEN`. -/
  sineLen : Nat
  /-- `SINE_TABLE`. -/
  sineTable : Fin sineLen → Int
  /-- `TABLE_PEAK`. -/
  tablePeak : Nat
  /-- `SQUARE_PERIOD`: timing only. -/
  squarePeriod : Fin 8 → Nat
  /-- `SINE_RELOAD`: timing only. -/
  sineReload : Fin 8 → Nat
  /-- `PARITY_ENABLED`. -/
  parityEnabled : Bool
  /-- `STOP_REFRESHES_COLOR`. -/
  stopRefreshesColor : Bool
  /-- `CAL(0) = 0`. -/
  cal_zero : cal 0 = 0
  /-- `CAL(1) >= 1`. -/
  cal_one : 1 ≤ cal 1
  /-- `CAL` is monotone non-decreasing. -/
  cal_mono : ∀ q r : Fin 32, q ≤ r → cal q ≤ cal r
  /-- `CAL(r) <= 100`. -/
  cal_le : ∀ r : Fin 32, cal r ≤ 100
  /-- `PWM_TOP >= 1`. -/
  pwmTop_pos : 1 ≤ pwmTop
  /-- `SQ_OFF_WIDTH < SQ_ON_WIDTH`. -/
  sqOff_lt_on : sqOffWidth < sqOnWidth
  /-- `SQ_ON_WIDTH <= PWM_TOP`. -/
  sqOn_le_top : sqOnWidth ≤ pwmTop
  /-- `SINE_LEN >= 1`. -/
  sineLen_pos : 1 ≤ sineLen
  /-- `TABLE_PEAK >= 1`. -/
  tablePeak_pos : 1 ≤ tablePeak

/-! ## Free values -/

/-- By how much `CAL` rises from one raw duty to the next. -/
opaque freeCalRise : Nat → Nat

/-- How far `PWM_TOP` lies above its least value. -/
opaque freePwmTop : Nat

/-- `PWM_ACTIVE_LOW`. -/
opaque freeActiveLow : Bool

/-- Where `SQ_ON_WIDTH` lies in its range. -/
opaque freeOnWidth : Nat

/-- Where `SQ_OFF_WIDTH` lies in its range. -/
opaque freeOffWidth : Nat

/-- How far `SINE_LEN` lies above its least value. -/
opaque freeSineLen : Nat

/-- The samples of `SINE_TABLE`. -/
opaque freeSample : Nat → Int

/-- How far `TABLE_PEAK` lies above its least value. -/
opaque freeTablePeak : Nat

/-- `SQUARE_PERIOD`. -/
opaque freeSquarePeriod : Nat → Nat

/-- `SINE_RELOAD`. -/
opaque freeSineReload : Nat → Nat

/-- `PARITY_ENABLED`. -/
opaque freeParity : Bool

/-- `STOP_REFRESHES_COLOR`. -/
opaque freeStopColor : Bool

/-- The move of an agent at each draw, where the agenda of the state decides none: every order, every byte on the line
and every number of expiries is possible (93_implementation_defined.md I15, I16; log 1). -/
opaque freeAction : Nat → Action

/-! ## The node's parameters, built from the free values -/

/-- The calibration curve with the given rises: 0 at 0, at least 1 at 1, never falling, at most 100. Every curve that
meets the constraints is one of these (Laws/Config.lean, `calFrom_complete`). -/
def calFrom (rise : Nat → Nat) : Nat → Nat
  | 0 => 0
  | r + 1 => min 100 (max 1 (calFrom rise r + rise r))

theorem calFrom_le (rise : Nat → Nat) (r : Nat) : calFrom rise r ≤ 100 := by
  cases r with
  | zero => simp [calFrom]
  | succ r => exact Nat.min_le_left _ _

theorem calFrom_le_succ (rise : Nat → Nat) (r : Nat) : calFrom rise r ≤ calFrom rise (r + 1) := by
  have h := calFrom_le rise r
  simp only [calFrom]
  omega

theorem calFrom_mono (rise : Nat → Nat) {q r : Nat} (h : q ≤ r) : calFrom rise q ≤ calFrom rise r :=
  monotone_nat_of_le_succ (calFrom_le_succ rise) h

/-- The parameters of this node: any values that meet the constraints of 00_scope.md R8, and nothing else is known of
them. -/
def node : Params where
  cal r := calFrom freeCalRise r.val
  pwmTop := freePwmTop + 1
  pwmActiveLow := freeActiveLow
  sqOnWidth := freeOnWidth % (freePwmTop + 1) + 1
  sqOffWidth := freeOffWidth % (freeOnWidth % (freePwmTop + 1) + 1)
  sineLen := freeSineLen + 1
  sineTable i := freeSample i.val
  tablePeak := freeTablePeak + 1
  squarePeriod f := freeSquarePeriod f.val
  sineReload f := freeSineReload f.val
  parityEnabled := freeParity
  stopRefreshesColor := freeStopColor
  cal_zero := rfl
  cal_one := by
    show 1 ≤ min 100 (max 1 _)
    omega
  cal_mono _ _ h := calFrom_mono _ h
  cal_le _ := calFrom_le _ _
  pwmTop_pos := Nat.le_add_left 1 _
  sqOff_lt_on := Nat.mod_lt _ (Nat.succ_pos _)
  sqOn_le_top := Nat.succ_le_succ (Nat.le_of_lt_succ (Nat.mod_lt _ (Nat.succ_pos _)))
  sineLen_pos := Nat.le_add_left 1 _
  tablePeak_pos := Nat.le_add_left 1 _

end Sys2Proof.Config
end

