-- ==== Sys2Proof/Machine/State.lean ====
section
/-! DEFINITION. The state record `S` of one node (10_state.md R21 to R45), the reasons a step can stop, and the state after
reset (R52). -/

namespace Sys2Proof.Machine

/-- Every field of one node. The block has no addressable memory (20_memory.md R60), so no list of cells; `pwm_compare` is
derived and is no field (10_state.md R42). The last three fields are the model's own. -/
structure State where
  /-- Parser frame state (R21). -/
  pstate : PState
  /-- Duty field latched from data byte 1 (R22). -/
  dutyRaw : BitVec 5
  /-- Receive request (R23). -/
  rxPending : Bool
  /-- Receive holding register (R23). -/
  rxBuf : Byte
  /-- Framing-error flag of the held byte (R24). -/
  rxFerr : Bool
  /-- Overrun flag of the held byte (R24). -/
  rxOerr : Bool
  /-- Parity-error flag of the held byte (R24). -/
  rxPerr : Bool
  /-- Wave mode (R25). -/
  mode : Mode
  /-- Calibrated duty, 0..100 (R26). -/
  dutyPercent : Nat
  /-- Frequency table index (R27). -/
  freqIndex : BitVec 3
  /-- Amplitude scale, 0..PWM_TOP (R28). -/
  amp : Nat
  /-- Sine phase index, 0..SINE_LEN-1 (R29). -/
  phase : Nat
  /-- The zero-crossing detector's memory (R30). -/
  lastSign : Sign
  /-- Window counter, 0..199 (R31). -/
  wc : Nat
  /-- On/off state the window processor last applied (R32). -/
  bridgeEnabled : Bool
  /-- Half-window the window processor last applied (R33). -/
  appliedHalf : Half
  /-- A window state has been applied since square entry (R34). -/
  dutyApplied : Bool
  /-- "Square window needs processing" (R35). -/
  squarePending : Bool
  /-- Timer A enable (R36). -/
  taEn : Bool
  /-- Timer A reload value (R36). -/
  taReload : Nat
  /-- Timer B enable (R37). -/
  tbEn : Bool
  /-- Timer B period (R37). -/
  tbPeriod : Nat
  /-- Timer A request (R38). -/
  taPending : Bool
  /-- Timer B request (R38). -/
  tbPending : Bool
  /-- Global interrupt enable (R39). -/
  gie : Bool
  /-- H-bridge leg assignment (R40). -/
  bridge : Bridge
  /-- Logical PWM drive magnitude, 0..PWM_TOP (R41). -/
  pwmWidth : Nat
  /-- Transmit stream (R43). -/
  txLog : List Byte
  /-- Duty index for the color mapper (R44). -/
  colorIndex : BitVec 5
  /-- "Color needs refresh" (R44). -/
  colorRefresh : Bool
  /-- Every bridge write, in order (R45). -/
  bridgeLog : List Bridge
  /-- The model's own: what `HostAckColor` has returned to the host, in order (60_exceptions.md R237, log 6). -/
  ackLog : List (BitVec 5)
  /-- The model's own: the agents' moves already decided, the next one first (log 1). -/
  agenda : List Action
  /-- The model's own: how many moves were taken from the free value `Config.freeAction` (log 1). -/
  draws : Nat
  deriving DecidableEq, Repr

/-- Faults. The block has none: no input traps, faults or halts it (60_exceptions.md R230, R240), so no constructor. -/
inductive Fault where
  deriving DecidableEq, Repr

/-- Refusals. -/
inductive Refusal where
  /-- Raised by an arm of `exec` for a command that has no meaning yet; safe. No arm does so any more. -/
  | notModelled (mnemonic : String)
  deriving DecidableEq, Repr

/-- The answer of a step. -/
abbrev Outcome := Host.Outcome State Fault Refusal

/-- The power-on reset state `S0` (10_state.md R52, 70_reset_and_hazards.md R270). `rxBuf` is unspecified there: its
value here is a DESIGN CHOICE (log 4), as are those of the three last fields (logs 1 and 6). -/
def State.reset : State where
  pstate := .idle
  dutyRaw := 0
  rxPending := false
  rxBuf := 0
  rxFerr := false
  rxOerr := false
  rxPerr := false
  mode := .idle
  dutyPercent := 0
  freqIndex := 0
  amp := 0
  phase := 0
  lastSign := .zero
  wc := 0
  bridgeEnabled := false
  appliedHalf := .first
  dutyApplied := false
  squarePending := false
  taEn := false
  taReload := 0
  tbEn := false
  tbPeriod := 0
  taPending := false
  tbPending := false
  gie := false
  bridge := .neutral
  pwmWidth := 0
  txLog := []
  colorIndex := 0
  colorRefresh := false
  bridgeLog := []
  ackLog := []
  agenda := []
  draws := 0

end Sys2Proof.Machine
end

