-- ==== Sys2Proof/Machine/Flags.lean ====
section
/-! DEFINITION. The status flags (10_state.md R48): the requests of the three sources, the receive error qualifiers and
the order in which they are tested, and their clearing. -/

namespace Sys2Proof.Machine

/-- Whether a source's request is set (60_exceptions.md R232). -/
def requested (src : Source) (s : State) : Bool :=
  match src with
  | .rx => s.rxPending
  | .timerA => s.taPending
  | .timerB => s.tbPending

/-- Whether the handler context may serve a source: interrupts enabled and its request set (60_exceptions.md R233). -/
def serviceable (src : Source) (s : State) : Bool := s.gie && requested src s

/-- The front end's verdict on the held byte: overrun, framing, parity in that order, parity only when it is enabled
(40_frame_parser.md R100 to R103; 60_exceptions.md R241). -/
def rxVerdict (parityEnabled : Bool) (s : State) : RxVerdict :=
  if s.rxOerr then .overrun
  else if s.rxFerr then .framing
  else if s.rxPerr && parityEnabled then .parity
  else .accepted

/-- The receive handler's second line: the request and all three error flags are cleared (40_frame_parser.md R100). -/
def clearRx (s : State) : State :=
  { s with rxPending := false, rxOerr := false, rxFerr := false, rxPerr := false }

/-- No request and no window processing outstanding (60_exceptions.md R249). -/
def settled (s : State) : Bool := !s.rxPending && !s.taPending && !s.tbPending && !s.squarePending

end Sys2Proof.Machine
end

