-- ==== Sys2Proof/Machine/Operands.lean ====
section
/-! DEFINITION. The values the commands and handlers compute: rounding (00_scope.md R12), calibration and amplitude
(42_waveform_selector.md R160, R161), window functions (43_square_drive.md R180, R181), zero crossing and forward duty
(44_sine_drive.md R200, R204). Arithmetic is on unbounded numbers (00_scope.md R11). -/

namespace Sys2Proof.Machine

open Sys2Proof.Config

/-- Rounding of `a / b` to the nearest natural, halves up (00_scope.md R12). -/
def rnd (a b : Nat) : Nat := (2 * a + b) / (2 * b)

/-- The calibrated duty of a raw duty (42_waveform_selector.md R160). -/
def calibratedDuty (c : Params) (raw : BitVec 5) : Nat := min 100 (c.cal raw.toFin)

/-- The amplitude scale of a calibrated duty (42_waveform_selector.md R161). -/
def amplitude (c : Params) (dp : Nat) : Nat := min c.pwmTop (rnd (c.pwmTop * dp) 100)

/-- `SQUARE_PERIOD[f]` (20_memory.md R63). -/
def squarePeriodAt (c : Params) (f : BitVec 3) : Nat := c.squarePeriod f.toFin

/-- `SINE_RELOAD[f]` (20_memory.md R63). -/
def sineReloadAt (c : Params) (f : BitVec 3) : Nat := c.sineReload f.toFin

/-- `SINE_TABLE[i]` (20_memory.md R63). Every caller's index is below `SINE_LEN`, where the remainder is the index. -/
def sampleAt (c : Params) (i : Nat) : Int := c.sineTable ⟨i % c.sineLen, Nat.mod_lt _ c.sineLen_pos⟩

/-- `on(wc, dp)` (43_square_drive.md R180). -/
def windowOn (wc dp : Nat) : Bool :=
  decide (wc < dp) || (decide (winHalf ≤ wc) && decide (wc < winHalf + dp))

/-- `half(wc)` (43_square_drive.md R181). -/
def halfOf (wc : Nat) : Half := if wc < winHalf then .first else .second

/-- `pol` of a half-window (43_square_drive.md R181). -/
def halfPolarity : Half → Bridge
  | .first => .pos
  | .second => .neg

/-- `ZeroCross(s, last)`: a zero sample inherits the previous sign (44_sine_drive.md R200). -/
def zeroCross (sample : Int) (last : Sign) : Sign :=
  if 0 < sample then .plus else if sample < 0 then .minus else last

/-- The polarity a sine tick routes to: Pos for sign +1, else Neg (44_sine_drive.md R201 step 5, R203). -/
def signPolarity (sg : Sign) : Bridge := if sg = .plus then .pos else .neg

/-- The forward duty of a sample before `SetPwm` clamps it (44_sine_drive.md R204). -/
def forwardDuty (c : Params) (amp : Nat) (sample : Int) : Nat := rnd (amp * sample.natAbs) c.tablePeak

end Sys2Proof.Machine
end

