-- ==== Sys2Proof/Machine/Ops.lean ====
section
/-! DEFINITION. The shared operations: transmit (20_memory.md R61), bridge and PWM primitives and the drive they give (41_output_stage.md
R140 to R148), entering and leaving the handler context (60_exceptions.md R238, R242, R243). -/

namespace Sys2Proof.Machine

open Sys2Proof.Config

/-- `TxEmit(b)`: the byte joins the transmit stream within the step; the port always accepts (20_memory.md R61, log 14). -/
def txEmit (b : Byte) (s : State) : State := { s with txLog := s.txLog ++ [b] }

/-- `BridgeWrite(v)`: the only writer of `bridge` and `bridge_log` (41_output_stage.md R141). -/
def bridgeWrite (v : Bridge) (s : State) : State := { s with bridge := v, bridgeLog := s.bridgeLog ++ [v] }

/-- `Coast()` (41_output_stage.md R142). -/
def coast (s : State) : State := bridgeWrite .neutral s

/-- `Route(p)`: break, then make (41_output_stage.md R143). -/
def route (p : Bridge) (s : State) : State := bridgeWrite p (bridgeWrite .neutral s)

/-- `SetPwm(w)`: clamped to PWM_TOP (41_output_stage.md R145). -/
def setPwm (c : Params) (w : Nat) (s : State) : State := { s with pwmWidth := min w c.pwmTop }

/-- `pwm_compare`, derived from `pwm_width` (10_state.md R42). -/
def pwmCompare (c : Params) (s : State) : Nat :=
  if c.pwmActiveLow then c.pwmTop - s.pwmWidth else s.pwmWidth

/-- The direction in which a bridge state drives the actuator: none in `Neutral`, one in `Pos`, the opposite one in `Neg`
(41_output_stage.md R140). DESIGN CHOICE (log 21): the direction of `Pos` is the one counted positive. -/
def driveDirection : Bridge → Int
  | .neutral => 0
  | .pos => 1
  | .neg => -1

/-- The differential drive across the actuator: the magnitude `pwm_width` in the bridge's direction, and zero in `Neutral`
whatever the width is (41_output_stage.md R140). It is a function of `(bridge, pwm_width)`, the block's whole output
between steps (R147). -/
def differentialDrive (s : State) : Int := driveDirection s.bridge * s.pwmWidth

/-- Silence: the bridge is `Neutral`; the width may be nonzero (41_output_stage.md R148). -/
def silent (s : State) : Bool := s.bridge == .neutral

/-- Entering the handler context for a source: a timer's request is cleared before its handler body; the receive handler
clears its own (60_exceptions.md R233, R238). No state is saved, no mode changes, there is no vector (R242). -/
def enterHandler (src : Source) (s : State) : State :=
  match src with
  | .rx => s
  | .timerA => { s with taPending := false }
  | .timerB => { s with tbPending := false }

/-- Leaving the handler context: the end of the step; nothing is restored and `gie` is unchanged (60_exceptions.md
R243). -/
def leaveHandler (o : Outcome) : Outcome := o

end Sys2Proof.Machine
end

