-- ==== Sys2Proof/Machine/Selector.lean ====
section
/-! DEFINITION. The waveform selector: mode exit, frame completion and STOP teardown (42_waveform_selector.md R162 to
R168). -/

namespace Sys2Proof.Machine

open Sys2Proof.Config

/-- `ModeExit()` (42_waveform_selector.md R163). -/
def modeExit (c : Params) (s : State) : State :=
  let s := { s with taEn := false, tbEn := false, taPending := false, tbPending := false }
  let s := setPwm c 0 (coast s)
  { s with
    amp := 0, squarePending := false, bridgeEnabled := false, appliedHalf := .first, dutyApplied := false }

/-- `Teardown()` (42_waveform_selector.md R167). -/
def teardown (c : Params) (s : State) : State :=
  let s := modeExit c s
  let s := { s with
    mode := .idle, dutyPercent := 0, freqIndex := 0, dutyRaw := 0, phase := 0, lastSign := .zero, wc := 0 }
  if c.stopRefreshesColor then { s with colorIndex := 0, colorRefresh := true } else s

/-- The mode a wave bit selects: 1 = Sine, 0 = Square (30_encoding.md R83). -/
def waveMode (wave : Bool) : Mode := if wave then .sine else .square

/-- The change into the mode of a frame: the old mode is left, and the new one starts its sequencer afresh
(42_waveform_selector.md R162 to R165). -/
def enterWave (c : Params) (wave : Bool) (s : State) : State :=
  let s := { modeExit c s with mode := waveMode wave }
  if wave then { s with phase := 0, lastSign := .zero } else { s with wc := 0 }

/-- What every completed frame records: the calibrated duty, the frequency and the color (42_waveform_selector.md R162,
R168). -/
def recordFrame (c : Params) (freq : BitVec 3) (s : State) : State :=
  { s with
    dutyPercent := calibratedDuty c s.dutyRaw, freqIndex := freq, colorIndex := s.dutyRaw, colorRefresh := true }

/-- The sine part of `Complete` (42_waveform_selector.md R162, R166); `same`: the node was in Sine mode already. -/
def configureSine (c : Params) (same : Bool) (s : State) : State :=
  let s := { s with
    amp := amplitude c s.dutyPercent, taEn := true, taReload := sineReloadAt c s.freqIndex }
  if same = true ∧ s.amp = 0 then setPwm c 0 (coast s) else s

/-- The square part of `Complete` (42_waveform_selector.md R162, R166); `same`: the node was in Square mode already. -/
def configureSquare (c : Params) (same : Bool) (s : State) : State :=
  let s := { s with tbEn := true, tbPeriod := squarePeriodAt c s.freqIndex, squarePending := true }
  if same = true ∧ s.dutyPercent = 0 ∧ s.bridgeEnabled = true then
    { setPwm c c.sqOffWidth (coast s) with bridgeEnabled := false }
  else s

/-- `Complete(b)` for data byte 2 with wave bit `wave` and frequency `freq` (42_waveform_selector.md R162). -/
def complete (c : Params) (wave : Bool) (freq : BitVec 3) (s : State) : State :=
  let same := decide (s.mode = waveMode wave)
  let s := recordFrame c freq (if same then s else enterWave c wave s)
  if wave then configureSine c same s else configureSquare c same s

end Sys2Proof.Machine
end

