-- ==== Sys2Proof/Machine/Parser.lean ====
section
/-! DEFINITION. The meanings of the six parser commands (40_frame_parser.md R110 to R115). Each runs inside the receive
handler step; none raises an exception (60_exceptions.md R230). -/

namespace Sys2Proof.Machine

/-- ADDR_FWD: the address decremented once, the start bit kept (40_frame_parser.md R110). -/
def execAddrFwd (addr : BitVec 6) (start : Bool) (s : State) : Outcome :=
  .next { txEmit (addressByte (addr - 1) start) s with pstate := .idle }

/-- STOP (40_frame_parser.md R111). -/
def execStop (s : State) : Outcome :=
  .next { teardown Config.node s with pstate := .idle }

/-- START (40_frame_parser.md R112). -/
def execStart (s : State) : Outcome :=
  .next { s with pstate := .waitData1 }

/-- DATA_PASS: forwarded verbatim; `pstate` stays (40_frame_parser.md R113). -/
def execDataPass (byte : Byte) (s : State) : Outcome :=
  .next (txEmit byte s)

/-- DATA1: the reserved bits are ignored (40_frame_parser.md R114, 30_encoding.md R88). -/
def execData1 (_reserved : BitVec 2) (duty : BitVec 5) (s : State) : Outcome :=
  .next { s with dutyRaw := duty, pstate := .waitData2 }

/-- DATA2: the frame completes; the reserved bits are ignored (40_frame_parser.md R115, 30_encoding.md R88). -/
def execData2 (_reserved : BitVec 3) (wave : Bool) (freq : BitVec 3) (s : State) : Outcome :=
  .next { complete Config.node wave freq s with pstate := .idle }

end Sys2Proof.Machine
end

