-- ==== Sys2Proof/Machine/Dispatch.lean ====
section
/-! DEFINITION. One arm per command of the opcode table, each one call of its meaning. -/

namespace Sys2Proof.Machine

def exec (i : Instr) (s : State) : Host.Outcome State Fault Refusal :=
  match i with
  | .addrFwd addr start => Sys2Proof.Machine.execAddrFwd addr start s
  | .stop => Sys2Proof.Machine.execStop s
  | .start => Sys2Proof.Machine.execStart s
  | .dataPass byte => Sys2Proof.Machine.execDataPass byte s
  | .data1 reserved duty => Sys2Proof.Machine.execData1 reserved duty s
  | .data2 reserved wave freq => Sys2Proof.Machine.execData2 reserved wave freq s

end Sys2Proof.Machine
end

