-- ==== Sys2Proof/Machine/Environment.lean ====
section
/-! DEFINITION. The steps of the environment and of the host (60_exceptions.md R234 to R237). -/

namespace Sys2Proof.Machine

/-- `RxArrive(b, fe, pe)`: an empty holding register takes the byte; a full one keeps its byte and is marked as overrun
(60_exceptions.md R234, log 13). -/
def rxArrive (b : Byte) (fe pe : Bool) (s : State) : State :=
  if s.rxPending then { s with rxOerr := true }
  else { s with rxBuf := b, rxFerr := fe, rxPerr := pe, rxPending := true }

/-- Timer A expires: possible only while enabled; repeats coalesce (60_exceptions.md R235). -/
def expireA (s : State) : State := if s.taEn then { s with taPending := true } else s

/-- Timer B expires: possible only while enabled; repeats coalesce (60_exceptions.md R236). -/
def expireB (s : State) : State := if s.tbEn then { s with tbPending := true } else s

/-- `HostSetGie(v)` (60_exceptions.md R237). -/
def hostSetGie (v : Bool) (s : State) : State := { s with gie := v }

/-- `HostAckColor()`: the color index goes back to the host and the flag is cleared (60_exceptions.md R237). -/
def hostAckColor (s : State) : State :=
  { s with ackLog := s.ackLog ++ [s.colorIndex], colorRefresh := false }

end Sys2Proof.Machine
end

