-- ==== Sys2Proof/Machine/Sine.lean ====
section
/-! DEFINITION. The sine drive: the timer A handler with the zero-crossing detector (44_sine_drive.md R200 to R204). -/

namespace Sys2Proof.Machine

open Sys2Proof.Config

/-- Steps 1 and 2 of the tick: the reload for the next tick, and the phase advanced circularly (44_sine_drive.md R201). -/
def advancePhase (c : Params) (s : State) : State :=
  { s with taReload := sineReloadAt c s.freqIndex, phase := (s.phase + 1) % c.sineLen }

/-- Step 5: the bridge is routed where the sign changes, and nowhere else (44_sine_drive.md R203). -/
def routeOnCrossing (sg : Sign) (s : State) : State :=
  if sg ≠ s.lastSign then { route (signPolarity sg) s with lastSign := sg } else s

/-- Steps 4 to 6 for the sample at the new phase (44_sine_drive.md R201, R202, R204). -/
def driveSample (c : Params) (sample : Int) (s : State) : State :=
  let sg := zeroCross sample s.lastSign
  if s.amp = 0 then { setPwm c 0 (coast s) with lastSign := sg }
  else setPwm c (forwardDuty c s.amp sample) (routeOnCrossing sg s)

/-- `SineTick()` (44_sine_drive.md R201). -/
def sineTick (c : Params) (s : State) : State :=
  if s.mode ≠ .sine then s
  else
    let s := advancePhase c s
    driveSample c (sampleAt c s.phase) s

end Sys2Proof.Machine
end

