-- ==== Sys2Proof/Machine/Square.lean ====
section
/-! DEFINITION. The square drive: the timer B handler and the deferred window processor (43_square_drive.md R182, R183). -/

namespace Sys2Proof.Machine

open Sys2Proof.Config

/-- `SquareTick()` (43_square_drive.md R182). -/
def squareTick (s : State) : State :=
  if s.mode ≠ .square then s else { s with wc := (s.wc + 1) % winLen, squarePending := true }

/-- Drive the outputs for an on/off state and a half-window (43_square_drive.md R183). -/
def applyWindow (c : Params) (on : Bool) (h : Half) (s : State) : State :=
  let s := if on then setPwm c c.sqOnWidth (route (halfPolarity h) s) else setPwm c c.sqOffWidth (coast s)
  { s with bridgeEnabled := on, appliedHalf := h, dutyApplied := true }

/-- Whether an on/off state and a half-window are the ones already applied (43_square_drive.md R183). -/
def alreadyApplied (on : Bool) (h : Half) (s : State) : Bool :=
  s.dutyApplied && (on == s.bridgeEnabled) && (h == s.appliedHalf)

/-- `SquareProcess()` (43_square_drive.md R183). -/
def squareProcess (c : Params) (s : State) : State :=
  let s := { s with squarePending := false }
  if s.mode ≠ .square then s
  else
    let on := windowOn s.wc s.dutyPercent
    let h := halfOf s.wc
    if alreadyApplied on h s then s else applyWindow c on h s

end Sys2Proof.Machine
end

