-- ==== Sys2Proof/Machine/Service.lean ====
section
/-! DEFINITION. The receive handler (40_frame_parser.md R100), the service step (60_exceptions.md R233), the moves of
every agent, and which of them comes next. -/

namespace Sys2Proof.Machine

/-- `Parse(b)`: the command that `(pstate, b)` decodes to is performed (40_frame_parser.md R104). -/
def parse (b : Byte) (s : State) : Outcome := exec (decodeByte s.pstate b) s

/-- `RxHandler()` (40_frame_parser.md R100). -/
def rxHandler (s : State) : Outcome :=
  match rxVerdict Config.node.parityEnabled s with
  | .accepted => parse s.rxBuf (clearRx s)
  | .overrun => .next (clearRx s)
  | .framing => .next (clearRx s)
  | .parity => .next (clearRx s)

/-- `Service(src)` (60_exceptions.md R233). -/
def service (src : Source) (s : State) : Outcome :=
  let s := enterHandler src s
  leaveHandler <|
    match src with
    | .rx => rxHandler s
    | .timerA => .next (sineTick Config.node s)
    | .timerB => .next (squareTick s)

/-- One move of one agent. A move whose agent is not enabled changes nothing (60_exceptions.md R233 to R239, log 2). -/
def perform (a : Action) (s : State) : Outcome :=
  match a with
  | .service src => if serviceable src s then service src s else .next s
  | .process => .next (if s.squarePending then squareProcess Config.node s else s)
  | .rxArrive b fe pe => .next (rxArrive b fe pe s)
  | .expireA => .next (expireA s)
  | .expireB => .next (expireB s)
  | .hostSetGie v => .next (hostSetGie v s)
  | .hostAckColor => .next (hostAckColor s)

/-- The next move: the first of the agenda, or else a free one (60_exceptions.md R233, R239, R249; log 1). -/
def nextAction (s : State) : Action :=
  match s.agenda with
  | [] => Config.freeAction s.draws
  | a :: _ => a

/-- The state with the next move taken off the agenda, or off the free moves (log 1). -/
def takeAction (s : State) : State :=
  match s.agenda with
  | [] => { s with draws := s.draws + 1 }
  | _ :: rest => { s with agenda := rest }

end Sys2Proof.Machine
end

