-- ==== Sys2Proof/Machine/Step.lean ====
section
/-! DEFINITION. One step of the node: the next agent's move (00_scope.md R14), and how a command is placed before it. -/

namespace Sys2Proof.Machine

/-- One atomic step. -/
def step (s : State) : Host.Outcome State Fault Refusal := perform (nextAction s) (takeAction s)

/-- `s` with the byte `w` held by the receiver without error, interrupts enabled and the receive source next to be
served, so that the next step parses exactly that byte in the parser state of `s` (log 7). -/
def State.withFetchWord (s : State) (nbits w : Nat) : State :=
  { s with
    rxBuf := BitVec.ofNat 8 (w % 2 ^ nbits), rxPending := true, rxFerr := false, rxOerr := false, rxPerr := false,
    gie := true, agenda := .service .rx :: s.agenda }

end Sys2Proof.Machine
end

