-- ==== Sys2Proof/Machine/Chain.lean ====
section
/-! DEFINITION. Bytes on the serial line: one node that is served after every byte, and nodes joined in a daisy chain
(20_memory.md R72, 60_exceptions.md R247). -/

namespace Sys2Proof.Machine

/-- A byte arrives without error and the receive source is then served: `rx(b)` of 95_test_vectors.md section 0. The
schedule and the verdicts are those of that shorthand, not of every run (log 22). -/
def receive (b : Byte) (s : State) : Outcome := perform (.service .rx) (rxArrive b false false s)

/-- Bytes received one after another, each served before the next arrives (log 22). -/
def receiveAll : List Byte → State → Outcome
  | [], s => .next s
  | b :: rest, s =>
    match receive b s with
    | .next t => receiveAll rest t
    | o => o

/-- What a node transmitted between two of its states. -/
def transmitted (before after : State) : List Byte := after.txLog.drop before.txLog.length

/-- A stream of bytes enters a chain of nodes: each node's transmit stream is the next one's receive stream. The answer
is the nodes afterwards and the bytes that leave the last one. DESIGN CHOICE (log 19): the spec makes each node an
independent instance (60_exceptions.md R247) and does not say whether their parameters are equal; here every node has the
one parameter set `Config.node`. DESIGN CHOICE (log 22): the spec leaves open the verdicts and the schedule with which a
chained byte is received (60_exceptions.md R234, R249; 20_memory.md R72); here no link has a framing or parity error, every
byte is served right after it arrives, and a node takes the whole stream before the next node gets a byte. -/
def feedChain : List State → List Byte → Option (List State × List Byte)
  | [], bytes => some ([], bytes)
  | s :: nodes, bytes =>
    match receiveAll bytes s with
    | .next t =>
      match feedChain nodes (transmitted s t) with
      | some (nodes', out) => some (t :: nodes', out)
      | none => none
    | .fault _ => none
    | .refused _ => none

end Sys2Proof.Machine
end

