-- ==== Sys2Proof/Safety.lean ====
section
/-! DEFINITION. What claims speak of: invariants of a node (10_state.md R53, 41_output_stage.md R144, 44_sine_drive.md
R207), what a step leaves unchanged, the engine configuration (40_frame_parser.md R118) and the command map as
spec/opcode_table.json lists it. -/

namespace Sys2Proof.Machine

open Sys2Proof.Config

/-! ## Unchanged groups of fields -/

/-- Parser fields unchanged. -/
abbrev SameParser (s t : State) : Prop := t.pstate = s.pstate ∧ t.dutyRaw = s.dutyRaw

/-- Receive fields unchanged. -/
abbrev SameReceiver (s t : State) : Prop :=
  t.rxPending = s.rxPending ∧ t.rxBuf = s.rxBuf ∧ t.rxFerr = s.rxFerr ∧ t.rxOerr = s.rxOerr ∧ t.rxPerr = s.rxPerr

/-- Engine configuration fields unchanged. -/
abbrev SameEngine (s t : State) : Prop :=
  t.mode = s.mode ∧ t.dutyPercent = s.dutyPercent ∧ t.freqIndex = s.freqIndex ∧ t.amp = s.amp

/-- Sine sequencer unchanged. -/
abbrev SameSine (s t : State) : Prop := t.phase = s.phase ∧ t.lastSign = s.lastSign

/-- Square window fields unchanged. -/
abbrev SameSquare (s t : State) : Prop :=
  t.wc = s.wc ∧ t.bridgeEnabled = s.bridgeEnabled ∧ t.appliedHalf = s.appliedHalf ∧ t.dutyApplied = s.dutyApplied ∧
    t.squarePending = s.squarePending

/-- Timer controls unchanged. -/
abbrev SameTimerControls (s t : State) : Prop :=
  t.taEn = s.taEn ∧ t.taReload = s.taReload ∧ t.tbEn = s.tbEn ∧ t.tbPeriod = s.tbPeriod

/-- Timer requests unchanged. -/
abbrev SameTimerRequests (s t : State) : Prop := t.taPending = s.taPending ∧ t.tbPending = s.tbPending

/-- Output stage unchanged: nothing was issued to the bridge. -/
abbrev SameOutput (s t : State) : Prop :=
  t.bridge = s.bridge ∧ t.pwmWidth = s.pwmWidth ∧ t.bridgeLog = s.bridgeLog

/-- Nothing was transmitted. -/
abbrev SameTransmit (s t : State) : Prop := t.txLog = s.txLog

/-- Color interface unchanged. -/
abbrev SameColor (s t : State) : Prop := t.colorIndex = s.colorIndex ∧ t.colorRefresh = s.colorRefresh

/-- Global interrupt enable unchanged. -/
abbrev SameGie (s t : State) : Prop := t.gie = s.gie

/-- The model's own fields unchanged. -/
abbrev SameOwn (s t : State) : Prop := t.ackLog = s.ackLog ∧ t.agenda = s.agenda ∧ t.draws = s.draws

/-- Everything the two waveforms hold and drive is unchanged. -/
abbrev SameActuation (s t : State) : Prop :=
  SameEngine s t ∧ SameSine s t ∧ SameSquare s t ∧ SameTimerControls s t ∧ SameTimerRequests s t ∧ SameOutput s t

/-- What no command of the parser writes: the receive fields, the global interrupt enable and the model's own fields. -/
abbrev SameSurroundings (s t : State) : Prop := SameReceiver s t ∧ SameGie s t ∧ SameOwn s t

/-- The engine configuration of 40_frame_parser.md R118 is equal. -/
abbrev SameConfiguration (s t : State) : Prop :=
  SameEngine s t ∧ SameTimerControls s t

/-! ## Invariants -/

/-- The ranges 10_state.md declares (R26, R28, R29, R31, R41). -/
structure InRange (c : Params) (s : State) : Prop where
  dutyPercent_le : s.dutyPercent ≤ 100
  amp_le : s.amp ≤ c.pwmTop
  phase_lt : s.phase < c.sineLen
  wc_lt : s.wc < winLen
  pwmWidth_le : s.pwmWidth ≤ c.pwmTop

/-- Mode, timers, requests and silence (10_state.md R53 (i) to (iv); 42_waveform_selector.md R169). `off_neutral` and the
request clauses carry the induction; they say why the guards of R182 and R201 never act. -/
structure ModeConsistent (s : State) : Prop where
  idle_timers : s.mode = .idle → s.taEn = false ∧ s.tbEn = false
  idle_silent : s.mode = .idle → s.bridge = .neutral ∧ s.pwmWidth = 0 ∧ s.dutyPercent = 0
  timerA_sine : s.taEn = true → s.mode = .sine
  timerB_square : s.tbEn = true → s.mode = .square
  requestA_enabled : s.taPending = true → s.taEn = true
  requestB_enabled : s.tbPending = true → s.tbEn = true
  process_square : s.squarePending = true → s.mode = .square
  sine_silent : s.mode = .sine → s.amp = 0 → s.bridge = .neutral ∧ s.pwmWidth = 0
  off_neutral : s.mode = .square → s.bridgeEnabled = false → s.bridge = .neutral
  square_silent : s.mode = .square → s.dutyPercent = 0 → s.bridge = .neutral

/-- Each `Pos` or `Neg` entry of a bridge log is immediately preceded by a `Neutral` entry (41_output_stage.md R144);
`prev` is the entry before the list. -/
def breakBeforeMake (prev : Option Bridge) : List Bridge → Bool
  | [] => true
  | v :: rest => (v == .neutral || prev == some .neutral) && breakBeforeMake (some v) rest

/-- The bridge log keeps break-before-make, and its last entry is the bridge's state; before any entry the bridge is
`Neutral` (10_state.md R40, R45; 41_output_stage.md R141, R144). -/
abbrev LogConsistent (s : State) : Prop :=
  breakBeforeMake none s.bridgeLog = true ∧ s.bridge = s.bridgeLog.getLast?.getD .neutral

/-- Polarity consistency in Sine mode (44_sine_drive.md R207). -/
structure PolarityConsistent (s : State) : Prop where
  follows : s.mode = .sine → s.bridge = .neutral ∨ s.bridge = signPolarity s.lastSign
  unsigned_neutral : s.mode = .sine → s.lastSign = .zero → s.bridge = .neutral
  silent_neutral : s.mode = .sine → s.amp = 0 → s.bridge = .neutral

/-- An empty holding register carries no error flag (10_state.md R24; 60_exceptions.md R234; 40_frame_parser.md R100). -/
abbrev ReceiverConsistent (s : State) : Prop :=
  s.rxPending = false → s.rxFerr = false ∧ s.rxOerr = false ∧ s.rxPerr = false

/-! ## Runs of ticks -/

/-- `n` timer A ticks served one after another (44_sine_drive.md R206). -/
def sineRun (c : Params) : Nat → State → State
  | 0, s => s
  | n + 1, s => sineTick c (sineRun c n s)

/-- The window processor has applied the state of the current `wc` (43_square_drive.md R183, R186). -/
abbrev WindowApplied (s : State) : Prop :=
  s.dutyApplied = true ∧ s.bridgeEnabled = windowOn s.wc s.dutyPercent ∧ s.appliedHalf = halfOf s.wc

/-- Ready to receive: interrupts enabled and the holding register empty without a stale overrun (60_exceptions.md R233,
R234). -/
abbrev ReadyToReceive (s : State) : Prop := s.gie = true ∧ s.rxPending = false ∧ s.rxOerr = false

/-! ## The command map as the table lists it -/

/-- The mnemonic of a command in spec/opcode_table.json. -/
def mnemonicOf : Instr → String
  | .addrFwd _ _ => "ADDR_FWD"
  | .stop => "STOP"
  | .start => "START"
  | .dataPass _ => "DATA_PASS"
  | .data1 _ _ => "DATA1"
  | .data2 _ _ _ => "DATA2"

/-- A row of the table: mask and match, whether `b[6:1] != 0` is required, and the parser states it applies in. -/
structure TableRow where
  mnemonic : String
  mask : Byte
  matchBits : Byte
  needsAddress : Bool
  states : List PState
  deriving DecidableEq, Repr

/-- The rows of spec/opcode_table.json. -/
def opcodeTable : List TableRow :=
  [⟨"ADDR_FWD", 0x80, 0x00, true, [.idle, .waitData1, .waitData2]⟩,
   ⟨"STOP", 0xFF, 0x00, false, [.idle, .waitData1, .waitData2]⟩,
   ⟨"START", 0xFF, 0x01, false, [.idle, .waitData1, .waitData2]⟩,
   ⟨"DATA_PASS", 0x80, 0x80, false, [.idle]⟩,
   ⟨"DATA1", 0x80, 0x80, false, [.waitData1]⟩,
   ⟨"DATA2", 0x80, 0x80, false, [.waitData2]⟩]

/-- Whether a row selects byte `b` in parser state `p`. -/
def TableRow.selects (r : TableRow) (p : PState) (b : Byte) : Bool :=
  (b &&& r.mask == r.matchBits) && (!r.needsAddress || (b >>> 1) &&& 0x3F != 0) && r.states.contains p

end Sys2Proof.Machine
end

