-- ==== Sys2Proof/Certificates/Slice0/Obligations.lean ====
section
/-! DEFINITION. The statements for the provers. Each docstring names the rules of spec/ it rests on; where a rule is the
spec's own decision (D<n> of 92_eei_decisions.md) or derivation, the docstring says so. -/

open Sys2Proof Sys2Proof.Machine

/-! ## Reset -/

/-- R52, R270 (decision D32): reset leaves the state `S0`. The clause on `pwm_compare` is R42's; `rxBuf` is not spoken of
(log 4), nor are the model's own fields. -/
def Obligations.ResetLeavesS0 : Prop :=
  let r := State.reset
  (r.pstate = .idle ∧ r.dutyRaw = 0) ∧
  (r.rxPending = false ∧ r.rxFerr = false ∧ r.rxOerr = false ∧ r.rxPerr = false) ∧
  (r.mode = .idle ∧ r.dutyPercent = 0 ∧ r.freqIndex = 0 ∧ r.amp = 0) ∧
  (r.phase = 0 ∧ r.lastSign = .zero) ∧
  (r.wc = 0 ∧ r.bridgeEnabled = false ∧ r.appliedHalf = .first ∧ r.dutyApplied = false ∧ r.squarePending = false) ∧
  (r.taEn = false ∧ r.taReload = 0 ∧ r.tbEn = false ∧ r.tbPeriod = 0 ∧ r.taPending = false ∧ r.tbPending = false) ∧
  r.gie = false ∧
  (r.bridge = .neutral ∧ r.pwmWidth = 0 ∧ r.bridgeLog = [] ∧ r.txLog = []) ∧
  (r.colorIndex = 0 ∧ r.colorRefresh = false) ∧
  (∀ c : Config.Params, pwmCompare c r = if c.pwmActiveLow then c.pwmTop else 0)

/-- R271 (derived by the spec): after reset no service, window processing or timer expiry is possible, so the first step
that changes anything is a byte arrival or a host step. -/
def Obligations.ResetAwaitsLineOrHost : Prop :=
  (∀ src, perform (.service src) State.reset = .next State.reset) ∧
  perform .process State.reset = .next State.reset ∧
  perform .expireA State.reset = .next State.reset ∧
  perform .expireB State.reset = .next State.reset

/-! ## Encoding -/

/-- R81 to R83, R86 (decisions D1, D2, D4): decoding the byte of a well-formed command, in a parser state in which the
command is read, gives the command back with every operand, and leaves the rest of the stream. That
the reserved bits are operands of DATA1 and DATA2 is the model's choice (log 11). -/
def Obligations.DecodeInvertsEncode : Prop :=
  ∀ (p : PState) (i : Instr) (rest : List Byte), i.wellFormed = true → i.readIn p = true →
    decode p (encode i ++ rest) = .ok (i, rest)

/-- R86, R89, and the encoder of R81 to R83: every byte decodes in every parser state to a well-formed command that is read
there, and encoding it gives the byte back. For data bytes whose reserved bits are not 0 this rests on the model's choice
to keep these bits as operands (log 11): R83 and R91 write them as 0 when they encode. -/
def Obligations.EncodeInvertsDecode : Prop :=
  ∀ (p : PState) (b : Byte), encode (decodeByte p b) = [b] ∧ (decodeByte p b).wellFormed = true ∧
    (decodeByte p b).readIn p = true

/-- R86 (decision D4) and R89, against the mask, match, condition and state columns of spec/opcode_table.json: for every
byte and parser state exactly one row applies, and the decoder gives that row's command. -/
def Obligations.CommandMapSelectsOneRow : Prop :=
  ∀ (p : PState) (b : Byte),
    (opcodeTable.filter (·.selects p b)).map (·.mnemonic) = [mnemonicOf (decodeByte p b)]

/-- R93 and 95_test_vectors.md V-ENC-1 (layout decisions D1, D2): worked bytes, written out, decode as listed. -/
def Obligations.DecodesWorkedBytes : Prop :=
  (∀ p, decodeByte p 0b00000000 = .stop ∧ decodeByte p 0b00000001 = .start ∧
    decodeByte p 0b00000011 = .addrFwd 1 true ∧ decodeByte p 0b00000100 = .addrFwd 2 false ∧
    decodeByte p 0b01111111 = .addrFwd 63 true) ∧
  decodeByte .idle 0b10001111 = .dataPass 0x8F ∧
  decodeByte .waitData1 0b10001111 = .data1 0 15 ∧
  decodeByte .waitData1 0b11100101 = .data1 3 5 ∧
  decodeByte .waitData2 0b10001011 = .data2 0 true 3 ∧
  decodeByte .waitData2 0b10000011 = .data2 0 false 3 ∧
  decodeByte .waitData2 0b11111000 = .data2 7 true 0

/-- R80: bit 7 alone, in every parser state, says whether a byte is an address byte (ADDR_FWD, STOP or START) or a data
byte (DATA_PASS, DATA1 or DATA2). -/
def Obligations.MarkerBitDecidesClass : Prop :=
  ∀ (p : PState) (b : Byte),
    (b.getLsbD 7 = false ↔ mnemonicOf (decodeByte p b) ∈ ["ADDR_FWD", "STOP", "START"]) ∧
    (b.getLsbD 7 = true ↔ mnemonicOf (decodeByte p b) ∈ ["DATA_PASS", "DATA1", "DATA2"])

/-! ## The step -/

/-- R100, R104, R233: when the receive source is served and the held byte decodes to a command, the step is that command
at the state with the move taken off the agenda (log 1) and the receive flags cleared; nothing else stands around it. -/
def Obligations.StepRunsDecodedCommand : Prop :=
  ∀ (s : State) (i : Instr), nextAction s = .service .rx → s.gie = true → s.rxPending = true →
    s.rxOerr = false → s.rxFerr = false → (s.rxPerr = false ∨ Config.node.parityEnabled = false) →
    decode s.pstate [s.rxBuf] = .ok (i, []) →
    i.wellFormed = true ∧
    step s = exec i { takeAction s with rxPending := false, rxOerr := false, rxFerr := false, rxPerr := false }

/-- R100, R104, R233 with the model's placing of a byte (log 7): the step after `withFetchWord` parses that byte in the
parser state of the state it was placed in. -/
def Obligations.PlacedWordRunsNext : Prop :=
  ∀ (s : State) (w : Nat), w < 256 →
    step (s.withFetchWord 8 w) =
      exec (decodeByte s.pstate (BitVec.ofNat 8 w))
        { s with
          rxBuf := BitVec.ofNat 8 w, rxPending := false, rxOerr := false, rxFerr := false, rxPerr := false,
          gie := true }

/-- R233 (decision D8) with log 2: a source without a request, or any source while `gie` is clear, is not served; the
step changes nothing but the agenda. With `gie` set and a request, the service runs. -/
def Obligations.ServiceNeedsGieAndRequest : Prop :=
  ∀ (s : State) (src : Source), nextAction s = .service src →
    ((s.gie = false ∨ requested src s = false) → step s = .next (takeAction s)) ∧
    (s.gie = true → requested src s = true → step s = service src (takeAction s))

/-- R230, R240 (derived by the spec): no state is stuck and no error is fatal: every step answers a next state. Two parts of
this are the model's choices and no rule's words: that a move that is not enabled answers a next state (log 2), and that a
step that forwards a byte ends (log 14, the spec's decision D10; by R282 sound only where every transmit completes). -/
def Obligations.EveryStepAnswersNext : Prop := ∀ s : State, ∃ t, step s = .next t

/-! ## Receive front end -/

/-- R100 with R101 to R103 and R241: that an overrun or a framing error drops the byte, the order of the tests and the parity
drop are the spec's decisions D5 and D6 (log 12). The receive handler is the step that serves the receive source; it clears the request and the three error flags;
then overrun, framing error and (where it is enabled) parity error, tested in that order, end it; otherwise the byte is
parsed. -/
def Obligations.ReceiveHandlerTestsErrors : Prop :=
  (∀ s : State, s.gie = true → s.rxPending = true → perform (.service .rx) s = rxHandler s) ∧
  ∀ s : State,
    let cleared : State := { s with rxPending := false, rxOerr := false, rxFerr := false, rxPerr := false }
    rxHandler s =
      if s.rxOerr = true then .next cleared
      else if s.rxFerr = true then .next cleared
      else if Config.node.parityEnabled = true ∧ s.rxPerr = true then .next cleared
      else parse s.rxBuf cleared

/-- R101 to R103 (decisions D5, D6), R117 (derived by the spec): a byte dropped for a receive error changes no parser,
actuation, timer or output field, transmits nothing, and leaves the receiver empty and without error. -/
def Obligations.ReceiveErrorContained : Prop :=
  ∀ s : State, nextAction s = .service .rx → s.gie = true → s.rxPending = true →
    (s.rxOerr = true ∨ s.rxFerr = true ∨ (s.rxPerr = true ∧ Config.node.parityEnabled = true)) →
    ∃ t, step s = .next t ∧ t.rxPending = false ∧ t.rxFerr = false ∧ t.rxOerr = false ∧ t.rxPerr = false ∧
      t.rxBuf = s.rxBuf ∧ SameParser s t ∧ SameActuation s t ∧ SameTransmit s t ∧ SameColor s t ∧ SameGie s t ∧
      t.ackLog = s.ackLog

/-! ## The parser commands -/

/-- R110, C2: an address byte with a nonzero address, in any parser state, is ADDR_FWD, and ADDR_FWD appends the byte
`((addr - 1) << 1) | start`, returns the parser to IDLE and changes nothing else. -/
def Obligations.AddrFwdForwardsDecremented : Prop :=
  (∀ (p : PState) (b : Byte), b.getLsbD 7 = false → b.extractLsb' 1 6 ≠ 0 →
    decodeByte p b = .addrFwd (b.extractLsb' 1 6) (b.getLsbD 0)) ∧
  ∀ (addr : BitVec 6) (start : Bool) (s : State), addr ≠ 0 →
    ∃ t, exec (.addrFwd addr start) s = .next t ∧
      t.txLog = s.txLog ++ [BitVec.ofNat 8 (((addr.toNat - 1) <<< 1) ||| start.toNat)] ∧
      t.pstate = .idle ∧ t.dutyRaw = s.dutyRaw ∧ SameActuation s t ∧ SameColor s t ∧ SameSurroundings s t

/-- R111, with R163 and R167 (decisions D20, D25, D26): STOP completes in every state: engine Idle and zeroed, timers off,
requests and engine flags cleared, one `Neutral` issued, PWM 0, parser IDLE; the color is refreshed exactly when
STOP_REFRESHES_COLOR. Nothing is transmitted; the timer values and every other field stay. The block is then silent with no differential drive
(R148, derived by the spec). -/
def Obligations.StopTearsDown : Prop :=
  ∀ s : State, ∃ t, exec .stop s = .next t ∧
    (t.pstate = .idle ∧ t.dutyRaw = 0 ∧ t.mode = .idle ∧ t.dutyPercent = 0 ∧ t.freqIndex = 0 ∧ t.amp = 0) ∧
    (t.phase = 0 ∧ t.lastSign = .zero ∧ t.wc = 0) ∧
    (t.bridgeEnabled = false ∧ t.appliedHalf = .first ∧ t.dutyApplied = false ∧ t.squarePending = false) ∧
    (t.taEn = false ∧ t.tbEn = false ∧ t.taPending = false ∧ t.tbPending = false) ∧
    (t.taReload = s.taReload ∧ t.tbPeriod = s.tbPeriod) ∧
    (t.bridge = .neutral ∧ t.pwmWidth = 0 ∧ t.bridgeLog = s.bridgeLog ++ [.neutral]) ∧
    (silent t = true ∧ differentialDrive t = 0) ∧
    (if Config.node.stopRefreshesColor then t.colorIndex = 0 ∧ t.colorRefresh = true else SameColor s t) ∧
    SameTransmit s t ∧ SameSurroundings s t

/-- R111 corner case, R167 (decision D25): what STOP leaves does not depend on the parser, engine, sequencer, window,
timer-enable, request or output values before it, only on the logs and on the fields R167 excepts. -/
def Obligations.StopForgetsPriorState : Prop :=
  ∀ s u : State, SameSurroundings s u → SameTransmit s u → SameColor s u → u.bridgeLog = s.bridgeLog →
    u.taReload = s.taReload → u.tbPeriod = s.tbPeriod → exec .stop s = exec .stop u

/-- R112: the byte 0x01 is START in any parser state; START takes the parser to WAIT_DATA1 and changes nothing else. -/
def Obligations.StartOpensFrame : Prop :=
  (∀ p : PState, decodeByte p 0x01 = .start) ∧
  ∀ s : State, ∃ t, exec .start s = .next t ∧ t.pstate = .waitData1 ∧ t.dutyRaw = s.dutyRaw ∧
    SameActuation s t ∧ SameTransmit s t ∧ SameColor s t ∧ SameSurroundings s t

/-- R113: a data byte in IDLE is DATA_PASS; DATA_PASS appends the byte verbatim and changes nothing else, the parser state
included. -/
def Obligations.DataPassForwardsVerbatim : Prop :=
  (∀ b : Byte, b.getLsbD 7 = true → decodeByte .idle b = .dataPass b) ∧
  ∀ (b : Byte) (s : State), ∃ t, exec (.dataPass b) s = .next t ∧ t.txLog = s.txLog ++ [b] ∧ SameParser s t ∧
    SameActuation s t ∧ SameColor s t ∧ SameSurroundings s t

/-- R114: a data byte in WAIT_DATA1 is DATA1 with duty `b & 0x1F`; DATA1 latches it, whatever the reserved bits are, takes
the parser to WAIT_DATA2, transmits nothing and changes nothing else. -/
def Obligations.Data1LatchesDuty : Prop :=
  (∀ b : Byte, b.getLsbD 7 = true →
    ∃ r d, decodeByte .waitData1 b = .data1 r d ∧ d.toNat = (b &&& 0x1F).toNat) ∧
  ∀ (r : BitVec 2) (d : BitVec 5) (s : State), ∃ t, exec (.data1 r d) s = .next t ∧ t.dutyRaw = d ∧
    t.pstate = .waitData2 ∧ SameActuation s t ∧ SameTransmit s t ∧ SameColor s t ∧ SameSurroundings s t

/-- R115 with R162 to R164 and R168 (decisions D20, D21, D27): DATA2 with wave 1 in another mode than Sine leaves that mode
and enters Sine: duty, frequency, amplitude and color from the frame, timer A on with the selected reload, timer B off,
requests and window flags cleared, phase and sign 0, one `Neutral` issued, PWM 0; the rest stays. -/
def Obligations.Data2EntersSine : Prop :=
  ∀ (r : BitVec 3) (f : BitVec 3) (s : State), s.mode ≠ .sine →
    ∃ t, exec (.data2 r true f) s = .next t ∧
      (t.pstate = .idle ∧ t.dutyRaw = s.dutyRaw ∧ t.mode = .sine ∧ t.freqIndex = f) ∧
      (t.dutyPercent = calibratedDuty Config.node s.dutyRaw ∧ t.amp = amplitude Config.node t.dutyPercent) ∧
      (t.phase = 0 ∧ t.lastSign = .zero ∧ t.wc = s.wc) ∧
      (t.bridgeEnabled = false ∧ t.appliedHalf = .first ∧ t.dutyApplied = false ∧ t.squarePending = false) ∧
      (t.taEn = true ∧ t.taReload = Config.node.sineReload f.toFin ∧ t.tbEn = false ∧ t.tbPeriod = s.tbPeriod) ∧
      (t.taPending = false ∧ t.tbPending = false) ∧
      (t.bridge = .neutral ∧ t.pwmWidth = 0 ∧ t.bridgeLog = s.bridgeLog ++ [.neutral]) ∧
      (t.colorIndex = s.dutyRaw ∧ t.colorRefresh = true) ∧ SameTransmit s t ∧ SameSurroundings s t

/-- R115 with R162, R166 and R168 (decisions D20, D27, D30): DATA2 with wave 1 in Sine keeps the phase, the sign and the
requests; amplitude, reload and color follow the frame; an amplitude of 0 coasts at once, any other changes no output. -/
def Obligations.Data2KeepsSineRunning : Prop :=
  ∀ (r : BitVec 3) (f : BitVec 3) (s : State), s.mode = .sine →
    ∃ t, exec (.data2 r true f) s = .next t ∧
      (t.pstate = .idle ∧ t.dutyRaw = s.dutyRaw ∧ t.mode = .sine ∧ t.freqIndex = f) ∧
      (t.dutyPercent = calibratedDuty Config.node s.dutyRaw ∧ t.amp = amplitude Config.node t.dutyPercent) ∧
      SameSine s t ∧ SameSquare s t ∧ SameTimerRequests s t ∧
      (t.taEn = true ∧ t.taReload = Config.node.sineReload f.toFin ∧ t.tbEn = s.tbEn ∧ t.tbPeriod = s.tbPeriod) ∧
      (if t.amp = 0 then t.bridge = .neutral ∧ t.pwmWidth = 0 ∧ t.bridgeLog = s.bridgeLog ++ [.neutral]
        else SameOutput s t) ∧
      (t.colorIndex = s.dutyRaw ∧ t.colorRefresh = true) ∧ SameTransmit s t ∧ SameSurroundings s t

/-- R115 with R162, R163, R165 and R168 (decisions D20, D22, D27): DATA2 with wave 0 in another mode than Square leaves
that mode and enters Square: the window restarts at 0 and is to be processed, timer B on with the selected period, timer A
off, requests cleared, amplitude 0, one `Neutral` issued, PWM 0; the rest stays. -/
def Obligations.Data2EntersSquare : Prop :=
  ∀ (r : BitVec 3) (f : BitVec 3) (s : State), s.mode ≠ .square →
    ∃ t, exec (.data2 r false f) s = .next t ∧
      (t.pstate = .idle ∧ t.dutyRaw = s.dutyRaw ∧ t.mode = .square ∧ t.freqIndex = f) ∧
      (t.dutyPercent = calibratedDuty Config.node s.dutyRaw ∧ t.amp = 0) ∧
      SameSine s t ∧
      (t.wc = 0 ∧ t.bridgeEnabled = false ∧ t.appliedHalf = .first ∧ t.dutyApplied = false ∧
        t.squarePending = true) ∧
      (t.tbEn = true ∧ t.tbPeriod = Config.node.squarePeriod f.toFin ∧ t.taEn = false ∧ t.taReload = s.taReload) ∧
      (t.taPending = false ∧ t.tbPending = false) ∧
      (t.bridge = .neutral ∧ t.pwmWidth = 0 ∧ t.bridgeLog = s.bridgeLog ++ [.neutral]) ∧
      (t.colorIndex = s.dutyRaw ∧ t.colorRefresh = true) ∧ SameTransmit s t ∧ SameSurroundings s t

/-- R115 with R162, R166 and R168 (decisions D20, D27, D42): DATA2 with wave 0 in Square keeps the window counter, the
applied half and the requests, and asks for processing; a duty of 0 while the bridge is enabled coasts at once and
disables it, anything else changes no output. -/
def Obligations.Data2KeepsSquareRunning : Prop :=
  ∀ (r : BitVec 3) (f : BitVec 3) (s : State), s.mode = .square →
    ∃ t, exec (.data2 r false f) s = .next t ∧
      (t.pstate = .idle ∧ t.dutyRaw = s.dutyRaw ∧ t.mode = .square ∧ t.freqIndex = f) ∧
      (t.dutyPercent = calibratedDuty Config.node s.dutyRaw ∧ t.amp = s.amp) ∧
      SameSine s t ∧ SameTimerRequests s t ∧
      (t.wc = s.wc ∧ t.appliedHalf = s.appliedHalf ∧ t.dutyApplied = s.dutyApplied ∧ t.squarePending = true) ∧
      (t.tbEn = true ∧ t.tbPeriod = Config.node.squarePeriod f.toFin ∧ t.taEn = s.taEn ∧ t.taReload = s.taReload) ∧
      (if t.dutyPercent = 0 ∧ s.bridgeEnabled = true then
          t.bridge = .neutral ∧ t.pwmWidth = Config.node.sqOffWidth ∧ t.bridgeLog = s.bridgeLog ++ [.neutral] ∧
            t.bridgeEnabled = false
        else SameOutput s t ∧ t.bridgeEnabled = s.bridgeEnabled) ∧
      (t.colorIndex = s.dutyRaw ∧ t.colorRefresh = true) ∧ SameTransmit s t ∧ SameSurroundings s t

/-- R88 (decision D3): data bytes that differ only in their reserved bits have the same effect in WAIT_DATA1 and in
WAIT_DATA2. -/
def Obligations.ReservedBitsHaveNoEffect : Prop :=
  (∀ (b b' : Byte) (s : State), s.pstate = .waitData1 → b.getLsbD 7 = true → b'.getLsbD 7 = true →
    b &&& 0x1F = b' &&& 0x1F → parse b s = parse b' s) ∧
  (∀ (b b' : Byte) (s : State), s.pstate = .waitData2 → b.getLsbD 7 = true → b'.getLsbD 7 = true →
    b &&& 0x0F = b' &&& 0x0F → parse b s = parse b' s)

/-- R116 (derived by the spec): for every accepted byte the transmit stream grows by one byte exactly for ADDR_FWD (the
byte less 2) and DATA_PASS (the byte), and otherwise not at all. -/
def Obligations.ForwardingLaw : Prop :=
  ∀ (b : Byte) (s : State), ∃ t, parse b s = .next t ∧
    t.txLog = s.txLog ++
      (if b.toNat < 2 then []
        else if b.toNat < 128 then [BitVec.ofNat 8 (b.toNat - 2)]
        else if s.pstate = .idle then [b]
        else [])

/-- R118 (derived by the spec): the same complete local frame twice in a row, each byte served as it arrives without error
(log 22), leaves the
same engine configuration both times. -/
def Obligations.RepeatedFrameSameConfiguration : Prop :=
  ∀ (s : State) (d1 d2 : Byte), ReadyToReceive s → d1.getLsbD 7 = true → d2.getLsbD 7 = true →
    ∃ t u, receiveAll [0x01, d1, d2] s = .next t ∧ receiveAll [0x01, d1, d2] t = .next u ∧
      t.mode ≠ .idle ∧ SameConfiguration t u

/-- R62, R72 (R72 derived by the spec): a START frame of hop count `a` that enters a chain of at most `a` nodes leaves it
with the address less one for each node and both data bytes verbatim, whatever the nodes' parser states were; no node's
actuation or color changes, and every node ends in IDLE. That all nodes have one parameter set is the model's choice (log
19), and so are links without errors and service after each arrival (log 22). -/
def Obligations.FrameReachesItsHop : Prop :=
  ∀ (nodes : List State) (a : BitVec 6) (d1 d2 : Byte), (∀ s ∈ nodes, ReadyToReceive s) →
    nodes.length ≤ a.toNat → d1.getLsbD 7 = true → d2.getLsbD 7 = true →
    ∃ nodes', feedChain nodes [addressByte a true, d1, d2] =
        some (nodes', [addressByte (a - BitVec.ofNat 6 nodes.length) true, d1, d2]) ∧
      List.Forall₂ (fun s t => SameActuation s t ∧ SameColor s t ∧ t.pstate = .idle) nodes nodes'

/-- R51 (derived by the spec): a latched duty cannot influence anything while the parser does not wait for data byte 2:
from two states that differ only in `dutyRaw` a step leads to states that differ at most in `dutyRaw`, and are equal if
the parser then waits for data byte 2. -/
def Obligations.AbortedDutyUnread : Prop :=
  ∀ (s t : State) (d : BitVec 5), s.pstate ≠ .waitData2 → step s = .next t →
    ∃ e, step { s with dutyRaw := d } = .next { t with dutyRaw := e } ∧ (t.pstate = .waitData2 → e = t.dutyRaw)

/-! ## Environment, host, interrupts -/

/-- R234 (decision D7, general knowledge G1, log 13): an empty receiver takes the byte with its verdicts; a full one keeps
its byte and is marked as overrun. Nothing else changes. -/
def Obligations.ByteArrivalLatchesOrOverruns : Prop :=
  ∀ (b : Byte) (fe pe : Bool) (s : State), ∃ t, perform (.rxArrive b fe pe) s = .next t ∧ t.rxPending = true ∧
    (if s.rxPending = true then
        t.rxOerr = true ∧ t.rxBuf = s.rxBuf ∧ t.rxFerr = s.rxFerr ∧ t.rxPerr = s.rxPerr
      else t.rxOerr = s.rxOerr ∧ t.rxBuf = b ∧ t.rxFerr = fe ∧ t.rxPerr = pe) ∧
    SameParser s t ∧ SameActuation s t ∧ SameTransmit s t ∧ SameColor s t ∧ SameGie s t ∧ SameOwn s t

/-- R235, R236 (decision D9): an expiry sets the request of an enabled timer and nothing else, a disabled timer never
expires, and a second expiry before service is absorbed. -/
def Obligations.TimerExpiryCoalesces : Prop :=
  ∀ s : State,
    perform .expireA s = .next { s with taPending := s.taPending || s.taEn } ∧
    perform .expireB s = .next { s with tbPending := s.tbPending || s.tbEn } ∧
    expireA (expireA s) = expireA s ∧ expireB (expireB s) = expireB s

/-- R237 (decisions D33, D39): the host's steps write `gie`, or clear `color_refresh` and hand back `color_index` (kept in
the model's own `ackLog`, log 6), and nothing else. -/
def Obligations.HostStepsTouchOnlyTheirFields : Prop :=
  (∀ (v : Bool) (s : State), ∃ t, perform (.hostSetGie v) s = .next t ∧ t.gie = v ∧ SameReceiver s t ∧
    SameParser s t ∧ SameActuation s t ∧ SameTransmit s t ∧ SameColor s t ∧ SameOwn s t) ∧
  (∀ s : State, ∃ t, perform .hostAckColor s = .next t ∧ t.colorRefresh = false ∧ t.colorIndex = s.colorIndex ∧
    t.ackLog = s.ackLog ++ [s.colorIndex] ∧ SameReceiver s t ∧ SameParser s t ∧ SameActuation s t ∧
    SameTransmit s t ∧ SameGie s t ∧ t.agenda = s.agenda ∧ t.draws = s.draws)

/-- R39 (its reset value is decision D33): only the host writes `gie`; no handler, processing or environment step
changes it. -/
def Obligations.OnlyHostWritesGie : Prop :=
  ∀ s t : State, step s = .next t → t.gie ≠ s.gie → nextAction s = .hostSetGie t.gie

/-- R238: a timer request is clear before its handler body runs, the receive handler clears its own, `ModeExit` clears
both timer requests, and no other step clears a request: a request that a step clears is that of the source it serves, or
a timer's while a received byte changes the mode or stops the engine. -/
def Obligations.RequestsClearedByServiceOnly : Prop :=
  (∀ s : State, service .timerA s = .next (sineTick Config.node { s with taPending := false }) ∧
    service .timerB s = .next (squareTick { s with tbPending := false })) ∧
  (∀ (c : Config.Params) (s : State), (modeExit c s).taPending = false ∧ (modeExit c s).tbPending = false ∧
    (sineTick c s).taPending = s.taPending ∧ (squareTick s).tbPending = s.tbPending) ∧
  (∀ s t : State, rxHandler s = .next t → t.rxPending = false) ∧
  ∀ (s t : State) (src : Source), step s = .next t → requested src s = true → requested src t = false →
    nextAction s = .service src ∨
      (src ≠ .rx ∧ nextAction s = .service .rx ∧ (t.mode ≠ s.mode ∨ t.mode = .idle))

/-- R285, C3: only the handler context and the deferred window processor write the actuation registers: any other step
leaves the PWM compare value, the bridge, the timer enables and everything else the waveforms hold as it was. -/
def Obligations.EnvironmentLeavesActuation : Prop :=
  ∀ s t : State, step s = .next t → (∀ src, nextAction s ≠ .service src) → nextAction s ≠ .process →
    pwmCompare Config.node t = pwmCompare Config.node s ∧ SameOutput s t ∧ SameTimerControls s t ∧ SameEngine s t ∧
      SameSine s t ∧ SameSquare s t

/-- R43, R45, R61, R141: a step appends to the output logs and never rewrites them; only serving the receive source
transmits, and then at most one byte. -/
def Obligations.OutputStreamsOnlyGrow : Prop :=
  ∀ s t : State, step s = .next t →
    (∃ bytes : List Byte, t.txLog = s.txLog ++ bytes ∧ bytes.length ≤ 1 ∧
      (bytes ≠ [] → nextAction s = .service .rx)) ∧
    ∃ writes : List Bridge, t.bridgeLog = s.bridgeLog ++ writes

/-- R21, R22: the parser state and the latched duty are written by parser commands only, that is, only while the receive
source is served. -/
def Obligations.ParserStateWrittenByReceiveOnly : Prop :=
  ∀ s t : State, step s = .next t → nextAction s ≠ .service .rx → SameParser s t

/-! ## Output stage -/

/-- R141: `BridgeWrite(v)` sets the bridge and appends `v` to the log, whether or not `v` is the old value, and changes
nothing else; and it is the only writer of both: what any step does to them is what a list of its calls does. -/
def Obligations.BridgeWriteIsTheOnlyWriter : Prop :=
  (∀ (v : Bridge) (s : State), bridgeWrite v s = { s with bridge := v, bridgeLog := s.bridgeLog ++ [v] }) ∧
  ∀ s t : State, step s = .next t →
    ∃ calls : List Bridge,
      let u := calls.foldl (fun x v => bridgeWrite v x) s
      t.bridge = u.bridge ∧ t.bridgeLog = u.bridgeLog

/-- R142, R143 (decisions D11, D13): `Coast` issues `Neutral`; `Route(p)` issues `Neutral` and then `p`, whatever the
bridge was. -/
def Obligations.RouteBreaksBeforeMaking : Prop :=
  (∀ s : State, (coast s).bridge = .neutral ∧ (coast s).bridgeLog = s.bridgeLog ++ [.neutral]) ∧
  ∀ (p : Bridge) (s : State), (route p s).bridge = p ∧ (route p s).bridgeLog = s.bridgeLog ++ [.neutral, p] ∧
    (route p s).pwmWidth = s.pwmWidth

/-- R145 (decision D16), R42: `SetPwm` clamps to PWM_TOP and writes nothing else; the compare value is the width or its
complement to PWM_TOP, and stays in 0..PWM_TOP. -/
def Obligations.PwmClampAndCompare : Prop :=
  ∀ (c : Config.Params) (w : Nat) (s : State),
    setPwm c w s = { s with pwmWidth := min w c.pwmTop } ∧
    pwmCompare c (setPwm c w s) ≤ c.pwmTop ∧
    (c.pwmActiveLow = true → pwmCompare c (setPwm c w s) + (setPwm c w s).pwmWidth = c.pwmTop) ∧
    (c.pwmActiveLow = false → pwmCompare c (setPwm c w s) = (setPwm c w s).pwmWidth)

/-- R144 (derived by the spec), R280: every step keeps break-before-make in the bridge log, and the log's last entry is
the bridge's state. -/
def Obligations.BreakBeforeMakeKept : Prop :=
  ∀ s t : State, LogConsistent s → step s = .next t → LogConsistent t

/-! ## Waveform selector -/

/-- R160, R8 (decisions D15, D31): for every admissible `CAL` the calibrated duty is at most 100, 0 at raw 0, at least 1
from raw 1 on, and monotone. -/
def Obligations.CalibrationCurve : Prop :=
  ∀ c : Config.Params, calibratedDuty c 0 = 0 ∧
    (∀ r : BitVec 5, calibratedDuty c r ≤ 100 ∧ calibratedDuty c r = c.cal r.toFin) ∧
    (∀ r : BitVec 5, r ≠ 0 → 1 ≤ calibratedDuty c r) ∧
    ∀ q r : BitVec 5, q ≤ r → calibratedDuty c q ≤ calibratedDuty c r

/-- R161 (derived by the spec): up to a duty of 100 the amplitude is `rnd(PWM_TOP * dp, 100)`, at most PWM_TOP, and 0
exactly when `2 * PWM_TOP * dp < 100`. -/
def Obligations.AmplitudeScale : Prop :=
  ∀ (c : Config.Params) (dp : Nat), dp ≤ 100 →
    amplitude c dp = rnd (c.pwmTop * dp) 100 ∧ amplitude c dp ≤ c.pwmTop ∧
      (amplitude c dp = 0 ↔ 2 * c.pwmTop * dp < 100)

/-- R53 (i) to (iv), R169 (derived by the spec): every step keeps the modes, timers, requests and silence consistent. -/
def Obligations.ModeExclusionKept : Prop :=
  ∀ s t : State, ModeConsistent s → step s = .next t → ModeConsistent t

/-- R26, R28, R29, R31, R41: every step keeps the declared ranges. -/
def Obligations.RangesKept : Prop :=
  ∀ s t : State, InRange Config.node s → step s = .next t → InRange Config.node t

/-- R24, R100, R234: every step keeps an empty receiver without error flags. -/
def Obligations.EmptyReceiverHasNoError : Prop :=
  ∀ s t : State, ReceiverConsistent s → step s = .next t → ReceiverConsistent t

/-- R207 (derived by the spec): every step keeps the bridge in Sine mode at `Neutral` or at the polarity of the last sign,
and at `Neutral` while there is no sign or no amplitude. -/
def Obligations.PolarityFollowsSign : Prop :=
  ∀ s t : State, PolarityConsistent s → step s = .next t → PolarityConsistent t

/-- R52, R53, R144, R207: the reset state meets the invariants (its values are decision D32). -/
def Obligations.ResetMeetsInvariants : Prop :=
  InRange Config.node State.reset ∧ ModeConsistent State.reset ∧ LogConsistent State.reset ∧
    PolarityConsistent State.reset ∧ ReceiverConsistent State.reset

/-! ## Square drive -/

/-- R180: the window is on for `wc` in `[0, dp)` and in `[100, 100 + dp)`. -/
def Obligations.WindowOnFunction : Prop :=
  ∀ wc dp : Nat, windowOn wc dp = true ↔ (wc < dp ∨ (100 ≤ wc ∧ wc < 100 + dp))

/-- R185 (derived by the spec): for a duty of at most 100, exactly `2 * dp` of the 200 ticks are on. -/
def Obligations.WindowOnCount : Prop :=
  ∀ dp : Nat, dp ≤ 100 → ((List.range 200).filter (fun wc => windowOn wc dp)).length = 2 * dp

/-- R182 (decision D28), R233: serving timer B in Square advances the window by one tick modulo 200, asks for processing and
clears the request; in another mode it only clears the request. -/
def Obligations.SquareTickAdvancesWindow : Prop :=
  ∀ s : State, s.gie = true → s.tbPending = true →
    perform (.service .timerB) s = .next
      (if s.mode = .square then
        { s with tbPending := false, wc := (s.wc + 1) % 200, squarePending := true }
      else { s with tbPending := false })

/-- R183, R239 (decisions D12, D13, D23, D24): processing, whatever `gie` is, clears the flag and applies the state of the
current tick: when neither the half nor the on/off state changed since the last application nothing is written; otherwise
ON routes the half's polarity at SQ_ON_WIDTH and OFF coasts at SQ_OFF_WIDTH. The rest stays. -/
def Obligations.WindowReissueOnlyOnChange : Prop :=
  ∀ s : State, s.squarePending = true → s.mode = .square →
    ∃ t, perform .process s = .next t ∧ t.squarePending = false ∧ t.wc = s.wc ∧ WindowApplied t ∧
      (if s.dutyApplied = true ∧ s.bridgeEnabled = windowOn s.wc s.dutyPercent ∧ s.appliedHalf = halfOf s.wc then
          SameOutput s t
        else if windowOn s.wc s.dutyPercent = true then
          t.bridge = (if s.wc < 100 then .pos else .neg) ∧
          t.bridgeLog = s.bridgeLog ++ [.neutral, if s.wc < 100 then .pos else .neg] ∧
          t.pwmWidth = Config.node.sqOnWidth
        else
          t.bridge = .neutral ∧ t.bridgeLog = s.bridgeLog ++ [.neutral] ∧ t.pwmWidth = Config.node.sqOffWidth) ∧
      SameEngine s t ∧ SameSine s t ∧ SameTimerControls s t ∧ SameTimerRequests s t ∧ SameParser s t ∧
      SameTransmit s t ∧ SameColor s t ∧ SameSurroundings s t

/-- R186 (derived by the spec): from a state whose window is applied, one tick with its processing issues to the bridge
exactly at the listed counts: at `dp` and `100 + dp` a coast and at 100 and 0 a route for `0 < dp < 100`; at 100 and 0 a
coast for `dp = 0`; at 100 and 0 a route for `dp = 100`. The window is then applied again, so the law holds tick after
tick. -/
def Obligations.ReissuePointsOfFullWindow : Prop :=
  ∀ s : State, s.mode = .square → s.wc < 200 → s.dutyPercent ≤ 100 → WindowApplied s →
    let t := squareProcess Config.node (squareTick s)
    let issued : List Bridge :=
      if t.wc = 0 then (if s.dutyPercent = 0 then [.neutral] else [.neutral, .pos])
      else if t.wc = 100 then (if s.dutyPercent = 0 then [.neutral] else [.neutral, .neg])
      else if 0 < s.dutyPercent ∧ s.dutyPercent < 100 ∧ (t.wc = s.dutyPercent ∨ t.wc = 100 + s.dutyPercent) then
        [.neutral]
      else []
    t.wc = (s.wc + 1) % 200 ∧ t.mode = .square ∧ t.dutyPercent = s.dutyPercent ∧ WindowApplied t ∧
      t.bridgeLog = s.bridgeLog ++ issued ∧
      (issued = [] → t.bridge = s.bridge ∧ t.pwmWidth = s.pwmWidth)

/-- R184 (derived by the spec), D42: in Square with duty 0 no step, in any consistent state, drives the bridge while the
mode and the duty stay; at duty 100 every tick of the window is on. -/
def Obligations.SquareDutyExtremes : Prop :=
  (∀ s t : State, ModeConsistent s → step s = .next t → t.mode = .square → t.dutyPercent = 0 →
    t.bridge = .neutral) ∧
  (∀ wc : Nat, windowOn wc 0 = false) ∧ ∀ wc : Nat, wc < 200 → windowOn wc 100 = true

/-! ## Sine drive -/

/-- R200 (decision D41): a positive sample gives +1, a negative one -1, and a zero sample inherits the previous sign. -/
def Obligations.ZeroSampleInheritsSign : Prop :=
  ∀ (x : Int) (last : Sign),
    (0 < x → zeroCross x last = .plus) ∧ (x < 0 → zeroCross x last = .minus) ∧ (x = 0 → zeroCross x last = last) ∧
    (zeroCross x last = .zero → x = 0 ∧ last = .zero)

/-- R202 with R201 and R233: a served timer A tick at amplitude 0 coasts, sets the PWM to 0 and records the sign of the
sample at the advanced phase; the phase has advanced and the reload is chosen; the rest stays. -/
def Obligations.SilentTickCoasts : Prop :=
  ∀ s : State, s.gie = true → s.taPending = true → s.mode = .sine → s.amp = 0 →
    ∃ t, perform (.service .timerA) s = .next t ∧
      t.phase = (s.phase + 1) % Config.node.sineLen ∧
      t.lastSign = zeroCross (sampleAt Config.node t.phase) s.lastSign ∧
      t.bridge = .neutral ∧ t.bridgeLog = s.bridgeLog ++ [.neutral] ∧ t.pwmWidth = 0 ∧
      t.taReload = Config.node.sineReload s.freqIndex.toFin ∧ t.taEn = s.taEn ∧ t.tbEn = s.tbEn ∧
      t.tbPeriod = s.tbPeriod ∧ t.taPending = false ∧ t.tbPending = s.tbPending ∧
      SameEngine s t ∧ SameSquare s t ∧ SameParser s t ∧ SameTransmit s t ∧ SameColor s t ∧ SameSurroundings s t

/-- R201, R203, R204 (decisions D12, D14, D21): a served timer A tick at a nonzero amplitude advances the phase, reads the
sample there, routes the bridge through `Neutral` exactly when the sign changes, and sets the width to the rounded share
of the amplitude, clamped; the rest stays. -/
def Obligations.SineTickRoutesOnSignChange : Prop :=
  ∀ s : State, s.gie = true → s.taPending = true → s.mode = .sine → s.amp ≠ 0 →
    ∃ t, perform (.service .timerA) s = .next t ∧
      t.phase = (s.phase + 1) % Config.node.sineLen ∧
      t.lastSign = zeroCross (sampleAt Config.node t.phase) s.lastSign ∧
      t.pwmWidth = min (rnd (s.amp * (sampleAt Config.node t.phase).natAbs) Config.node.tablePeak)
        Config.node.pwmTop ∧
      (if t.lastSign = s.lastSign then t.bridge = s.bridge ∧ t.bridgeLog = s.bridgeLog
        else
          t.bridge = (if t.lastSign = .plus then .pos else .neg) ∧
          t.bridgeLog = s.bridgeLog ++ [.neutral, if t.lastSign = .plus then .pos else .neg]) ∧
      t.taReload = Config.node.sineReload s.freqIndex.toFin ∧ t.taEn = s.taEn ∧ t.tbEn = s.tbEn ∧
      t.tbPeriod = s.tbPeriod ∧ t.taPending = false ∧ t.tbPending = s.tbPending ∧
      SameEngine s t ∧ SameSquare s t ∧ SameParser s t ∧ SameTransmit s t ∧ SameColor s t ∧ SameSurroundings s t

/-- R204 (derived by the spec), R12: where no sample exceeds TABLE_PEAK, the forward duty is at most the amplitude, so the
clamp of `SetPwm` never acts. -/
def Obligations.ForwardDutyWithinAmplitude : Prop :=
  ∀ (c : Config.Params) (amp : Nat) (x : Int), x.natAbs ≤ c.tablePeak → forwardDuty c amp x ≤ amp

/-- R206 (derived by the spec): over any run of ticks at a nonzero amplitude, tick `n + 1` routes if and only if the sign
changes there, the sign is that of the sample with ties inherited, no zero sample routes, and nothing else is issued to
the bridge. For every admissible table. -/
def Obligations.ZeroCrossingLawOverRun : Prop :=
  ∀ (c : Config.Params) (s : State) (n : Nat), s.mode = .sine → s.amp ≠ 0 →
    let u := sineRun c n s
    let t := sineRun c (n + 1) s
    t.phase = (s.phase + (n + 1)) % c.sineLen ∧
      t.lastSign = zeroCross (sampleAt c t.phase) u.lastSign ∧
      (sampleAt c t.phase = 0 → t.lastSign = u.lastSign) ∧
      t.bridgeLog = u.bridgeLog ++
        (if t.lastSign = u.lastSign then [] else [.neutral, if t.lastSign = .plus then .pos else .neg])

/-- R208 (derived by the spec; decision D30): after silence the bridge stays `Neutral` through any run of ticks whose
samples never change the sign, and nothing is issued to it: drive resumes only at a crossing. -/
def Obligations.DriveResumesAtCrossing : Prop :=
  ∀ (c : Config.Params) (s : State) (n : Nat), s.mode = .sine → s.amp ≠ 0 → s.bridge = .neutral →
    (∀ k < n, zeroCross (sampleAt c (s.phase + (k + 1))) s.lastSign = s.lastSign) →
    (sineRun c n s).bridge = .neutral ∧ (sineRun c n s).bridgeLog = s.bridgeLog ∧
      (sineRun c n s).lastSign = s.lastSign

/-! ## Timing -/

/-- R290, R8 (`SQUARE_PERIOD`, `SINE_RELOAD`: timing only): no step reads the timer values: from two states that differ only
in `ta_reload` and `tb_period` a step leads to states that differ at most in these. -/
def Obligations.TimerValuesUnread : Prop :=
  ∀ (s t : State) (x y : Nat), step s = .next t →
    ∃ x' y', step { s with taReload := x, tbPeriod := y } = .next { t with taReload := x', tbPeriod := y' }
end

