-- ==== Sys2Proof/Laws/Config.lean ====
section
/-! SUPPORT. The parameters built from free values leave nothing out: every admissible value of 00_scope.md R8 is reached by
some free value. And the basic facts of rounding (00_scope.md R12). -/

namespace Sys2Proof.Config

/-- Every curve that meets the constraints of 00_scope.md R8 is `calFrom` of its own rises. -/
theorem calFrom_complete (curve : Nat → Nat) (h0 : curve 0 = 0) (h1 : 1 ≤ curve 1)
    (mono : ∀ r, curve r ≤ curve (r + 1)) (le : ∀ r, curve r ≤ 100) (r : Nat) :
    calFrom (fun n => curve (n + 1) - curve n) r = curve r := by
  induction r with
  | zero => simp [calFrom, h0]
  | succ r ih =>
    have hpos : 1 ≤ curve (r + 1) := by
      clear ih
      induction r with
      | zero => exact h1
      | succ r ih => exact le_trans ih (mono _)
    have := mono r
    have := le (r + 1)
    simp only [calFrom, ih]
    omega

/-- Every admissible pair of square widths is reached for the given PWM_TOP. -/
theorem widths_complete {on off top : Nat} (hoff : off < on) (hon : on ≤ top) (htop : 1 ≤ top) :
    ∃ x y, x % (top - 1 + 1) + 1 = on ∧ y % (x % (top - 1 + 1) + 1) = off := by
  refine ⟨on - 1, off, ?_, ?_⟩
  · rw [Nat.mod_eq_of_lt (by omega)]; omega
  · rw [Nat.mod_eq_of_lt (by omega : on - 1 < top - 1 + 1), Nat.mod_eq_of_lt (by omega)]

end Sys2Proof.Config

namespace Sys2Proof.Machine

theorem rnd_mono {a a' : Nat} (b : Nat) (h : a ≤ a') : rnd a b ≤ rnd a' b :=
  Nat.div_le_div_right (by omega)

/-- A whole number of `b` rounds to itself. -/
theorem rnd_mul_right (a : Nat) {b : Nat} (hb : 1 ≤ b) : rnd (a * b) b = a := by
  unfold rnd
  rw [show 2 * (a * b) + b = b + a * (2 * b) by ring, Nat.add_mul_div_right _ _ (by omega),
    Nat.div_eq_of_lt (by omega), Nat.zero_add]

@[simp] theorem rnd_zero (b : Nat) : rnd 0 b = 0 := by
  unfold rnd
  rcases Nat.eq_zero_or_pos b with rfl | hb
  · rfl
  · exact Nat.div_eq_of_lt (by omega)

/-- The sample read at an index depends on the index modulo SINE_LEN only. -/
@[simp] theorem sampleAt_mod (c : Config.Params) (i : Nat) : sampleAt c (i % c.sineLen) = sampleAt c i := by
  simp [sampleAt]

end Sys2Proof.Machine
end

