-- ==== Sys2Proof/Laws/Decode.lean ====
section
/-! SUPPORT. What each field of an encoded byte reads as (30_encoding.md R81 to R83). -/

namespace Sys2Proof

@[simp] theorem markerOf_addressByte : ∀ (a : BitVec 6) (s : Bool), markerOf (addressByte a s) = false := by decide
@[simp] theorem addrOf_addressByte : ∀ (a : BitVec 6) (s : Bool), addrOf (addressByte a s) = a := by decide
@[simp] theorem startOf_addressByte : ∀ (a : BitVec 6) (s : Bool), startOf (addressByte a s) = s := by decide
@[simp] theorem markerOf_data1Byte : ∀ (r : BitVec 2) (d : BitVec 5), markerOf (data1Byte r d) = true := by decide
@[simp] theorem reserved1Of_data1Byte : ∀ (r : BitVec 2) (d : BitVec 5), reserved1Of (data1Byte r d) = r := by decide
@[simp] theorem dutyOf_data1Byte : ∀ (r : BitVec 2) (d : BitVec 5), dutyOf (data1Byte r d) = d := by decide
@[simp] theorem markerOf_data2Byte : ∀ (r : BitVec 3) (w : Bool) (f : BitVec 3), markerOf (data2Byte r w f) = true := by
  decide
@[simp] theorem reserved2Of_data2Byte : ∀ (r : BitVec 3) (w : Bool) (f : BitVec 3), reserved2Of (data2Byte r w f) = r := by
  decide
@[simp] theorem waveOf_data2Byte : ∀ (r : BitVec 3) (w : Bool) (f : BitVec 3), waveOf (data2Byte r w f) = w := by decide
@[simp] theorem freqOf_data2Byte : ∀ (r : BitVec 3) (w : Bool) (f : BitVec 3), freqOf (data2Byte r w f) = f := by decide

/-- A data byte decodes by the parser state alone. -/
theorem decodeByte_data {b : Byte} (p : PState) (h : b.getLsbD 7 = true) :
    decodeByte p b = match p with
      | .idle => .dataPass b
      | .waitData1 => .data1 (reserved1Of b) (dutyOf b)
      | .waitData2 => .data2 (reserved2Of b) (waveOf b) (freqOf b) :=
  if_pos h

/-- An address byte decodes alike in every parser state (30_encoding.md R86). -/
theorem decodeByte_address {b : Byte} (p : PState) (h : b.getLsbD 7 = false) :
    decodeByte p b =
      if addrOf b ≠ 0 then .addrFwd (addrOf b) (startOf b) else if startOf b then .start else .stop :=
  if_neg (by rw [markerOf, h]; decide)

end Sys2Proof
end

