-- ==== Sys2Proof/Laws/State.lean ====
section
/-! SUPPORT. One lemma for each field of State and each operation that writes fields without a condition: what the field
holds afterwards. No later proof unfolds a record update. -/

namespace Sys2Proof.Machine

open Sys2Proof.Config

/-! ## `txEmit` -/

@[simp] theorem txEmit_pstate (b : Byte) (s : State) : (txEmit b s).pstate = s.pstate := rfl
@[simp] theorem txEmit_dutyRaw (b : Byte) (s : State) : (txEmit b s).dutyRaw = s.dutyRaw := rfl
@[simp] theorem txEmit_rxPending (b : Byte) (s : State) : (txEmit b s).rxPending = s.rxPending := rfl
@[simp] theorem txEmit_rxBuf (b : Byte) (s : State) : (txEmit b s).rxBuf = s.rxBuf := rfl
@[simp] theorem txEmit_rxFerr (b : Byte) (s : State) : (txEmit b s).rxFerr = s.rxFerr := rfl
@[simp] theorem txEmit_rxOerr (b : Byte) (s : State) : (txEmit b s).rxOerr = s.rxOerr := rfl
@[simp] theorem txEmit_rxPerr (b : Byte) (s : State) : (txEmit b s).rxPerr = s.rxPerr := rfl
@[simp] theorem txEmit_mode (b : Byte) (s : State) : (txEmit b s).mode = s.mode := rfl
@[simp] theorem txEmit_dutyPercent (b : Byte) (s : State) : (txEmit b s).dutyPercent = s.dutyPercent := rfl
@[simp] theorem txEmit_freqIndex (b : Byte) (s : State) : (txEmit b s).freqIndex = s.freqIndex := rfl
@[simp] theorem txEmit_amp (b : Byte) (s : State) : (txEmit b s).amp = s.amp := rfl
@[simp] theorem txEmit_phase (b : Byte) (s : State) : (txEmit b s).phase = s.phase := rfl
@[simp] theorem txEmit_lastSign (b : Byte) (s : State) : (txEmit b s).lastSign = s.lastSign := rfl
@[simp] theorem txEmit_wc (b : Byte) (s : State) : (txEmit b s).wc = s.wc := rfl
@[simp] theorem txEmit_bridgeEnabled (b : Byte) (s : State) : (txEmit b s).bridgeEnabled = s.bridgeEnabled := rfl
@[simp] theorem txEmit_appliedHalf (b : Byte) (s : State) : (txEmit b s).appliedHalf = s.appliedHalf := rfl
@[simp] theorem txEmit_dutyApplied (b : Byte) (s : State) : (txEmit b s).dutyApplied = s.dutyApplied := rfl
@[simp] theorem txEmit_squarePending (b : Byte) (s : State) : (txEmit b s).squarePending = s.squarePending := rfl
@[simp] theorem txEmit_taEn (b : Byte) (s : State) : (txEmit b s).taEn = s.taEn := rfl
@[simp] theorem txEmit_taReload (b : Byte) (s : State) : (txEmit b s).taReload = s.taReload := rfl
@[simp] theorem txEmit_tbEn (b : Byte) (s : State) : (txEmit b s).tbEn = s.tbEn := rfl
@[simp] theorem txEmit_tbPeriod (b : Byte) (s : State) : (txEmit b s).tbPeriod = s.tbPeriod := rfl
@[simp] theorem txEmit_taPending (b : Byte) (s : State) : (txEmit b s).taPending = s.taPending := rfl
@[simp] theorem txEmit_tbPending (b : Byte) (s : State) : (txEmit b s).tbPending = s.tbPending := rfl
@[simp] theorem txEmit_gie (b : Byte) (s : State) : (txEmit b s).gie = s.gie := rfl
@[simp] theorem txEmit_bridge (b : Byte) (s : State) : (txEmit b s).bridge = s.bridge := rfl
@[simp] theorem txEmit_pwmWidth (b : Byte) (s : State) : (txEmit b s).pwmWidth = s.pwmWidth := rfl
@[simp] theorem txEmit_txLog (b : Byte) (s : State) : (txEmit b s).txLog = s.txLog ++ [b] := rfl
@[simp] theorem txEmit_colorIndex (b : Byte) (s : State) : (txEmit b s).colorIndex = s.colorIndex := rfl
@[simp] theorem txEmit_colorRefresh (b : Byte) (s : State) : (txEmit b s).colorRefresh = s.colorRefresh := rfl
@[simp] theorem txEmit_bridgeLog (b : Byte) (s : State) : (txEmit b s).bridgeLog = s.bridgeLog := rfl
@[simp] theorem txEmit_ackLog (b : Byte) (s : State) : (txEmit b s).ackLog = s.ackLog := rfl
@[simp] theorem txEmit_agenda (b : Byte) (s : State) : (txEmit b s).agenda = s.agenda := rfl
@[simp] theorem txEmit_draws (b : Byte) (s : State) : (txEmit b s).draws = s.draws := rfl

/-! ## `bridgeWrite` -/

@[simp] theorem bridgeWrite_pstate (v : Bridge) (s : State) : (bridgeWrite v s).pstate = s.pstate := rfl
@[simp] theorem bridgeWrite_dutyRaw (v : Bridge) (s : State) : (bridgeWrite v s).dutyRaw = s.dutyRaw := rfl
@[simp] theorem bridgeWrite_rxPending (v : Bridge) (s : State) : (bridgeWrite v s).rxPending = s.rxPending := rfl
@[simp] theorem bridgeWrite_rxBuf (v : Bridge) (s : State) : (bridgeWrite v s).rxBuf = s.rxBuf := rfl
@[simp] theorem bridgeWrite_rxFerr (v : Bridge) (s : State) : (bridgeWrite v s).rxFerr = s.rxFerr := rfl
@[simp] theorem bridgeWrite_rxOerr (v : Bridge) (s : State) : (bridgeWrite v s).rxOerr = s.rxOerr := rfl
@[simp] theorem bridgeWrite_rxPerr (v : Bridge) (s : State) : (bridgeWrite v s).rxPerr = s.rxPerr := rfl
@[simp] theorem bridgeWrite_mode (v : Bridge) (s : State) : (bridgeWrite v s).mode = s.mode := rfl
@[simp] theorem bridgeWrite_dutyPercent (v : Bridge) (s : State) : (bridgeWrite v s).dutyPercent = s.dutyPercent := rfl
@[simp] theorem bridgeWrite_freqIndex (v : Bridge) (s : State) : (bridgeWrite v s).freqIndex = s.freqIndex := rfl
@[simp] theorem bridgeWrite_amp (v : Bridge) (s : State) : (bridgeWrite v s).amp = s.amp := rfl
@[simp] theorem bridgeWrite_phase (v : Bridge) (s : State) : (bridgeWrite v s).phase = s.phase := rfl
@[simp] theorem bridgeWrite_lastSign (v : Bridge) (s : State) : (bridgeWrite v s).lastSign = s.lastSign := rfl
@[simp] theorem bridgeWrite_wc (v : Bridge) (s : State) : (bridgeWrite v s).wc = s.wc := rfl
@[simp] theorem bridgeWrite_bridgeEnabled (v : Bridge) (s : State) : (bridgeWrite v s).bridgeEnabled = s.bridgeEnabled := rfl
@[simp] theorem bridgeWrite_appliedHalf (v : Bridge) (s : State) : (bridgeWrite v s).appliedHalf = s.appliedHalf := rfl
@[simp] theorem bridgeWrite_dutyApplied (v : Bridge) (s : State) : (bridgeWrite v s).dutyApplied = s.dutyApplied := rfl
@[simp] theorem bridgeWrite_squarePending (v : Bridge) (s : State) : (bridgeWrite v s).squarePending = s.squarePending := rfl
@[simp] theorem bridgeWrite_taEn (v : Bridge) (s : State) : (bridgeWrite v s).taEn = s.taEn := rfl
@[simp] theorem bridgeWrite_taReload (v : Bridge) (s : State) : (bridgeWrite v s).taReload = s.taReload := rfl
@[simp] theorem bridgeWrite_tbEn (v : Bridge) (s : State) : (bridgeWrite v s).tbEn = s.tbEn := rfl
@[simp] theorem bridgeWrite_tbPeriod (v : Bridge) (s : State) : (bridgeWrite v s).tbPeriod = s.tbPeriod := rfl
@[simp] theorem bridgeWrite_taPending (v : Bridge) (s : State) : (bridgeWrite v s).taPending = s.taPending := rfl
@[simp] theorem bridgeWrite_tbPending (v : Bridge) (s : State) : (bridgeWrite v s).tbPending = s.tbPending := rfl
@[simp] theorem bridgeWrite_gie (v : Bridge) (s : State) : (bridgeWrite v s).gie = s.gie := rfl
@[simp] theorem bridgeWrite_bridge (v : Bridge) (s : State) : (bridgeWrite v s).bridge = v := rfl
@[simp] theorem bridgeWrite_pwmWidth (v : Bridge) (s : State) : (bridgeWrite v s).pwmWidth = s.pwmWidth := rfl
@[simp] theorem bridgeWrite_txLog (v : Bridge) (s : State) : (bridgeWrite v s).txLog = s.txLog := rfl
@[simp] theorem bridgeWrite_colorIndex (v : Bridge) (s : State) : (bridgeWrite v s).colorIndex = s.colorIndex := rfl
@[simp] theorem bridgeWrite_colorRefresh (v : Bridge) (s : State) : (bridgeWrite v s).colorRefresh = s.colorRefresh := rfl
@[simp] theorem bridgeWrite_bridgeLog (v : Bridge) (s : State) : (bridgeWrite v s).bridgeLog = s.bridgeLog ++ [v] := rfl
@[simp] theorem bridgeWrite_ackLog (v : Bridge) (s : State) : (bridgeWrite v s).ackLog = s.ackLog := rfl
@[simp] theorem bridgeWrite_agenda (v : Bridge) (s : State) : (bridgeWrite v s).agenda = s.agenda := rfl
@[simp] theorem bridgeWrite_draws (v : Bridge) (s : State) : (bridgeWrite v s).draws = s.draws := rfl

/-! ## `coast` -/

@[simp] theorem coast_pstate (s : State) : (coast s).pstate = s.pstate := rfl
@[simp] theorem coast_dutyRaw (s : State) : (coast s).dutyRaw = s.dutyRaw := rfl
@[simp] theorem coast_rxPending (s : State) : (coast s).rxPending = s.rxPending := rfl
@[simp] theorem coast_rxBuf (s : State) : (coast s).rxBuf = s.rxBuf := rfl
@[simp] theorem coast_rxFerr (s : State) : (coast s).rxFerr = s.rxFerr := rfl
@[simp] theorem coast_rxOerr (s : State) : (coast s).rxOerr = s.rxOerr := rfl
@[simp] theorem coast_rxPerr (s : State) : (coast s).rxPerr = s.rxPerr := rfl
@[simp] theorem coast_mode (s : State) : (coast s).mode = s.mode := rfl
@[simp] theorem coast_dutyPercent (s : State) : (coast s).dutyPercent = s.dutyPercent := rfl
@[simp] theorem coast_freqIndex (s : State) : (coast s).freqIndex = s.freqIndex := rfl
@[simp] theorem coast_amp (s : State) : (coast s).amp = s.amp := rfl
@[simp] theorem coast_phase (s : State) : (coast s).phase = s.phase := rfl
@[simp] theorem coast_lastSign (s : State) : (coast s).lastSign = s.lastSign := rfl
@[simp] theorem coast_wc (s : State) : (coast s).wc = s.wc := rfl
@[simp] theorem coast_bridgeEnabled (s : State) : (coast s).bridgeEnabled = s.bridgeEnabled := rfl
@[simp] theorem coast_appliedHalf (s : State) : (coast s).appliedHalf = s.appliedHalf := rfl
@[simp] theorem coast_dutyApplied (s : State) : (coast s).dutyApplied = s.dutyApplied := rfl
@[simp] theorem coast_squarePending (s : State) : (coast s).squarePending = s.squarePending := rfl
@[simp] theorem coast_taEn (s : State) : (coast s).taEn = s.taEn := rfl
@[simp] theorem coast_taReload (s : State) : (coast s).taReload = s.taReload := rfl
@[simp] theorem coast_tbEn (s : State) : (coast s).tbEn = s.tbEn := rfl
@[simp] theorem coast_tbPeriod (s : State) : (coast s).tbPeriod = s.tbPeriod := rfl
@[simp] theorem coast_taPending (s : State) : (coast s).taPending = s.taPending := rfl
@[simp] theorem coast_tbPending (s : State) : (coast s).tbPending = s.tbPending := rfl
@[simp] theorem coast_gie (s : State) : (coast s).gie = s.gie := rfl
@[simp] theorem coast_bridge (s : State) : (coast s).bridge = .neutral := rfl
@[simp] theorem coast_pwmWidth (s : State) : (coast s).pwmWidth = s.pwmWidth := rfl
@[simp] theorem coast_txLog (s : State) : (coast s).txLog = s.txLog := rfl
@[simp] theorem coast_colorIndex (s : State) : (coast s).colorIndex = s.colorIndex := rfl
@[simp] theorem coast_colorRefresh (s : State) : (coast s).colorRefresh = s.colorRefresh := rfl
@[simp] theorem coast_bridgeLog (s : State) : (coast s).bridgeLog = s.bridgeLog ++ [.neutral] := rfl
@[simp] theorem coast_ackLog (s : State) : (coast s).ackLog = s.ackLog := rfl
@[simp] theorem coast_agenda (s : State) : (coast s).agenda = s.agenda := rfl
@[simp] theorem coast_draws (s : State) : (coast s).draws = s.draws := rfl

/-! ## `route` -/

@[simp] theorem route_pstate (p : Bridge) (s : State) : (route p s).pstate = s.pstate := rfl
@[simp] theorem route_dutyRaw (p : Bridge) (s : State) : (route p s).dutyRaw = s.dutyRaw := rfl
@[simp] theorem route_rxPending (p : Bridge) (s : State) : (route p s).rxPending = s.rxPending := rfl
@[simp] theorem route_rxBuf (p : Bridge) (s : State) : (route p s).rxBuf = s.rxBuf := rfl
@[simp] theorem route_rxFerr (p : Bridge) (s : State) : (route p s).rxFerr = s.rxFerr := rfl
@[simp] theorem route_rxOerr (p : Bridge) (s : State) : (route p s).rxOerr = s.rxOerr := rfl
@[simp] theorem route_rxPerr (p : Bridge) (s : State) : (route p s).rxPerr = s.rxPerr := rfl
@[simp] theorem route_mode (p : Bridge) (s : State) : (route p s).mode = s.mode := rfl
@[simp] theorem route_dutyPercent (p : Bridge) (s : State) : (route p s).dutyPercent = s.dutyPercent := rfl
@[simp] theorem route_freqIndex (p : Bridge) (s : State) : (route p s).freqIndex = s.freqIndex := rfl
@[simp] theorem route_amp (p : Bridge) (s : State) : (route p s).amp = s.amp := rfl
@[simp] theorem route_phase (p : Bridge) (s : State) : (route p s).phase = s.phase := rfl
@[simp] theorem route_lastSign (p : Bridge) (s : State) : (route p s).lastSign = s.lastSign := rfl
@[simp] theorem route_wc (p : Bridge) (s : State) : (route p s).wc = s.wc := rfl
@[simp] theorem route_bridgeEnabled (p : Bridge) (s : State) : (route p s).bridgeEnabled = s.bridgeEnabled := rfl
@[simp] theorem route_appliedHalf (p : Bridge) (s : State) : (route p s).appliedHalf = s.appliedHalf := rfl
@[simp] theorem route_dutyApplied (p : Bridge) (s : State) : (route p s).dutyApplied = s.dutyApplied := rfl
@[simp] theorem route_squarePending (p : Bridge) (s : State) : (route p s).squarePending = s.squarePending := rfl
@[simp] theorem route_taEn (p : Bridge) (s : State) : (route p s).taEn = s.taEn := rfl
@[simp] theorem route_taReload (p : Bridge) (s : State) : (route p s).taReload = s.taReload := rfl
@[simp] theorem route_tbEn (p : Bridge) (s : State) : (route p s).tbEn = s.tbEn := rfl
@[simp] theorem route_tbPeriod (p : Bridge) (s : State) : (route p s).tbPeriod = s.tbPeriod := rfl
@[simp] theorem route_taPending (p : Bridge) (s : State) : (route p s).taPending = s.taPending := rfl
@[simp] theorem route_tbPending (p : Bridge) (s : State) : (route p s).tbPending = s.tbPending := rfl
@[simp] theorem route_gie (p : Bridge) (s : State) : (route p s).gie = s.gie := rfl
@[simp] theorem route_bridge (p : Bridge) (s : State) : (route p s).bridge = p := rfl
@[simp] theorem route_pwmWidth (p : Bridge) (s : State) : (route p s).pwmWidth = s.pwmWidth := rfl
@[simp] theorem route_txLog (p : Bridge) (s : State) : (route p s).txLog = s.txLog := rfl
@[simp] theorem route_colorIndex (p : Bridge) (s : State) : (route p s).colorIndex = s.colorIndex := rfl
@[simp] theorem route_colorRefresh (p : Bridge) (s : State) : (route p s).colorRefresh = s.colorRefresh := rfl
@[simp] theorem route_bridgeLog (p : Bridge) (s : State) : (route p s).bridgeLog = s.bridgeLog ++ [.neutral] ++ [p] := rfl
@[simp] theorem route_ackLog (p : Bridge) (s : State) : (route p s).ackLog = s.ackLog := rfl
@[simp] theorem route_agenda (p : Bridge) (s : State) : (route p s).agenda = s.agenda := rfl
@[simp] theorem route_draws (p : Bridge) (s : State) : (route p s).draws = s.draws := rfl

/-! ## `setPwm` -/

@[simp] theorem setPwm_pstate (c : Params) (w : Nat) (s : State) : (setPwm c w s).pstate = s.pstate := rfl
@[simp] theorem setPwm_dutyRaw (c : Params) (w : Nat) (s : State) : (setPwm c w s).dutyRaw = s.dutyRaw := rfl
@[simp] theorem setPwm_rxPending (c : Params) (w : Nat) (s : State) : (setPwm c w s).rxPending = s.rxPending := rfl
@[simp] theorem setPwm_rxBuf (c : Params) (w : Nat) (s : State) : (setPwm c w s).rxBuf = s.rxBuf := rfl
@[simp] theorem setPwm_rxFerr (c : Params) (w : Nat) (s : State) : (setPwm c w s).rxFerr = s.rxFerr := rfl
@[simp] theorem setPwm_rxOerr (c : Params) (w : Nat) (s : State) : (setPwm c w s).rxOerr = s.rxOerr := rfl
@[simp] theorem setPwm_rxPerr (c : Params) (w : Nat) (s : State) : (setPwm c w s).rxPerr = s.rxPerr := rfl
@[simp] theorem setPwm_mode (c : Params) (w : Nat) (s : State) : (setPwm c w s).mode = s.mode := rfl
@[simp] theorem setPwm_dutyPercent (c : Params) (w : Nat) (s : State) : (setPwm c w s).dutyPercent = s.dutyPercent := rfl
@[simp] theorem setPwm_freqIndex (c : Params) (w : Nat) (s : State) : (setPwm c w s).freqIndex = s.freqIndex := rfl
@[simp] theorem setPwm_amp (c : Params) (w : Nat) (s : State) : (setPwm c w s).amp = s.amp := rfl
@[simp] theorem setPwm_phase (c : Params) (w : Nat) (s : State) : (setPwm c w s).phase = s.phase := rfl
@[simp] theorem setPwm_lastSign (c : Params) (w : Nat) (s : State) : (setPwm c w s).lastSign = s.lastSign := rfl
@[simp] theorem setPwm_wc (c : Params) (w : Nat) (s : State) : (setPwm c w s).wc = s.wc := rfl
@[simp] theorem setPwm_bridgeEnabled (c : Params) (w : Nat) (s : State) : (setPwm c w s).bridgeEnabled = s.bridgeEnabled := rfl
@[simp] theorem setPwm_appliedHalf (c : Params) (w : Nat) (s : State) : (setPwm c w s).appliedHalf = s.appliedHalf := rfl
@[simp] theorem setPwm_dutyApplied (c : Params) (w : Nat) (s : State) : (setPwm c w s).dutyApplied = s.dutyApplied := rfl
@[simp] theorem setPwm_squarePending (c : Params) (w : Nat) (s : State) : (setPwm c w s).squarePending = s.squarePending := rfl
@[simp] theorem setPwm_taEn (c : Params) (w : Nat) (s : State) : (setPwm c w s).taEn = s.taEn := rfl
@[simp] theorem setPwm_taReload (c : Params) (w : Nat) (s : State) : (setPwm c w s).taReload = s.taReload := rfl
@[simp] theorem setPwm_tbEn (c : Params) (w : Nat) (s : State) : (setPwm c w s).tbEn = s.tbEn := rfl
@[simp] theorem setPwm_tbPeriod (c : Params) (w : Nat) (s : State) : (setPwm c w s).tbPeriod = s.tbPeriod := rfl
@[simp] theorem setPwm_taPending (c : Params) (w : Nat) (s : State) : (setPwm c w s).taPending = s.taPending := rfl
@[simp] theorem setPwm_tbPending (c : Params) (w : Nat) (s : State) : (setPwm c w s).tbPending = s.tbPending := rfl
@[simp] theorem setPwm_gie (c : Params) (w : Nat) (s : State) : (setPwm c w s).gie = s.gie := rfl
@[simp] theorem setPwm_bridge (c : Params) (w : Nat) (s : State) : (setPwm c w s).bridge = s.bridge := rfl
@[simp] theorem setPwm_pwmWidth (c : Params) (w : Nat) (s : State) : (setPwm c w s).pwmWidth = min w c.pwmTop := rfl
@[simp] theorem setPwm_txLog (c : Params) (w : Nat) (s : State) : (setPwm c w s).txLog = s.txLog := rfl
@[simp] theorem setPwm_colorIndex (c : Params) (w : Nat) (s : State) : (setPwm c w s).colorIndex = s.colorIndex := rfl
@[simp] theorem setPwm_colorRefresh (c : Params) (w : Nat) (s : State) : (setPwm c w s).colorRefresh = s.colorRefresh := rfl
@[simp] theorem setPwm_bridgeLog (c : Params) (w : Nat) (s : State) : (setPwm c w s).bridgeLog = s.bridgeLog := rfl
@[simp] theorem setPwm_ackLog (c : Params) (w : Nat) (s : State) : (setPwm c w s).ackLog = s.ackLog := rfl
@[simp] theorem setPwm_agenda (c : Params) (w : Nat) (s : State) : (setPwm c w s).agenda = s.agenda := rfl
@[simp] theorem setPwm_draws (c : Params) (w : Nat) (s : State) : (setPwm c w s).draws = s.draws := rfl

/-! ## `clearRx` -/

@[simp] theorem clearRx_pstate (s : State) : (clearRx s).pstate = s.pstate := rfl
@[simp] theorem clearRx_dutyRaw (s : State) : (clearRx s).dutyRaw = s.dutyRaw := rfl
@[simp] theorem clearRx_rxPending (s : State) : (clearRx s).rxPending = false := rfl
@[simp] theorem clearRx_rxBuf (s : State) : (clearRx s).rxBuf = s.rxBuf := rfl
@[simp] theorem clearRx_rxFerr (s : State) : (clearRx s).rxFerr = false := rfl
@[simp] theorem clearRx_rxOerr (s : State) : (clearRx s).rxOerr = false := rfl
@[simp] theorem clearRx_rxPerr (s : State) : (clearRx s).rxPerr = false := rfl
@[simp] theorem clearRx_mode (s : State) : (clearRx s).mode = s.mode := rfl
@[simp] theorem clearRx_dutyPercent (s : State) : (clearRx s).dutyPercent = s.dutyPercent := rfl
@[simp] theorem clearRx_freqIndex (s : State) : (clearRx s).freqIndex = s.freqIndex := rfl
@[simp] theorem clearRx_amp (s : State) : (clearRx s).amp = s.amp := rfl
@[simp] theorem clearRx_phase (s : State) : (clearRx s).phase = s.phase := rfl
@[simp] theorem clearRx_lastSign (s : State) : (clearRx s).lastSign = s.lastSign := rfl
@[simp] theorem clearRx_wc (s : State) : (clearRx s).wc = s.wc := rfl
@[simp] theorem clearRx_bridgeEnabled (s : State) : (clearRx s).bridgeEnabled = s.bridgeEnabled := rfl
@[simp] theorem clearRx_appliedHalf (s : State) : (clearRx s).appliedHalf = s.appliedHalf := rfl
@[simp] theorem clearRx_dutyApplied (s : State) : (clearRx s).dutyApplied = s.dutyApplied := rfl
@[simp] theorem clearRx_squarePending (s : State) : (clearRx s).squarePending = s.squarePending := rfl
@[simp] theorem clearRx_taEn (s : State) : (clearRx s).taEn = s.taEn := rfl
@[simp] theorem clearRx_taReload (s : State) : (clearRx s).taReload = s.taReload := rfl
@[simp] theorem clearRx_tbEn (s : State) : (clearRx s).tbEn = s.tbEn := rfl
@[simp] theorem clearRx_tbPeriod (s : State) : (clearRx s).tbPeriod = s.tbPeriod := rfl
@[simp] theorem clearRx_taPending (s : State) : (clearRx s).taPending = s.taPending := rfl
@[simp] theorem clearRx_tbPending (s : State) : (clearRx s).tbPending = s.tbPending := rfl
@[simp] theorem clearRx_gie (s : State) : (clearRx s).gie = s.gie := rfl
@[simp] theorem clearRx_bridge (s : State) : (clearRx s).bridge = s.bridge := rfl
@[simp] theorem clearRx_pwmWidth (s : State) : (clearRx s).pwmWidth = s.pwmWidth := rfl
@[simp] theorem clearRx_txLog (s : State) : (clearRx s).txLog = s.txLog := rfl
@[simp] theorem clearRx_colorIndex (s : State) : (clearRx s).colorIndex = s.colorIndex := rfl
@[simp] theorem clearRx_colorRefresh (s : State) : (clearRx s).colorRefresh = s.colorRefresh := rfl
@[simp] theorem clearRx_bridgeLog (s : State) : (clearRx s).bridgeLog = s.bridgeLog := rfl
@[simp] theorem clearRx_ackLog (s : State) : (clearRx s).ackLog = s.ackLog := rfl
@[simp] theorem clearRx_agenda (s : State) : (clearRx s).agenda = s.agenda := rfl
@[simp] theorem clearRx_draws (s : State) : (clearRx s).draws = s.draws := rfl

/-! ## `modeExit` -/

@[simp] theorem modeExit_pstate (c : Params) (s : State) : (modeExit c s).pstate = s.pstate := rfl
@[simp] theorem modeExit_dutyRaw (c : Params) (s : State) : (modeExit c s).dutyRaw = s.dutyRaw := rfl
@[simp] theorem modeExit_rxPending (c : Params) (s : State) : (modeExit c s).rxPending = s.rxPending := rfl
@[simp] theorem modeExit_rxBuf (c : Params) (s : State) : (modeExit c s).rxBuf = s.rxBuf := rfl
@[simp] theorem modeExit_rxFerr (c : Params) (s : State) : (modeExit c s).rxFerr = s.rxFerr := rfl
@[simp] theorem modeExit_rxOerr (c : Params) (s : State) : (modeExit c s).rxOerr = s.rxOerr := rfl
@[simp] theorem modeExit_rxPerr (c : Params) (s : State) : (modeExit c s).rxPerr = s.rxPerr := rfl
@[simp] theorem modeExit_mode (c : Params) (s : State) : (modeExit c s).mode = s.mode := rfl
@[simp] theorem modeExit_dutyPercent (c : Params) (s : State) : (modeExit c s).dutyPercent = s.dutyPercent := rfl
@[simp] theorem modeExit_freqIndex (c : Params) (s : State) : (modeExit c s).freqIndex = s.freqIndex := rfl
@[simp] theorem modeExit_amp (c : Params) (s : State) : (modeExit c s).amp = 0 := rfl
@[simp] theorem modeExit_phase (c : Params) (s : State) : (modeExit c s).phase = s.phase := rfl
@[simp] theorem modeExit_lastSign (c : Params) (s : State) : (modeExit c s).lastSign = s.lastSign := rfl
@[simp] theorem modeExit_wc (c : Params) (s : State) : (modeExit c s).wc = s.wc := rfl
@[simp] theorem modeExit_bridgeEnabled (c : Params) (s : State) : (modeExit c s).bridgeEnabled = false := rfl
@[simp] theorem modeExit_appliedHalf (c : Params) (s : State) : (modeExit c s).appliedHalf = .first := rfl
@[simp] theorem modeExit_dutyApplied (c : Params) (s : State) : (modeExit c s).dutyApplied = false := rfl
@[simp] theorem modeExit_squarePending (c : Params) (s : State) : (modeExit c s).squarePending = false := rfl
@[simp] theorem modeExit_taEn (c : Params) (s : State) : (modeExit c s).taEn = false := rfl
@[simp] theorem modeExit_taReload (c : Params) (s : State) : (modeExit c s).taReload = s.taReload := rfl
@[simp] theorem modeExit_tbEn (c : Params) (s : State) : (modeExit c s).tbEn = false := rfl
@[simp] theorem modeExit_tbPeriod (c : Params) (s : State) : (modeExit c s).tbPeriod = s.tbPeriod := rfl
@[simp] theorem modeExit_taPending (c : Params) (s : State) : (modeExit c s).taPending = false := rfl
@[simp] theorem modeExit_tbPending (c : Params) (s : State) : (modeExit c s).tbPending = false := rfl
@[simp] theorem modeExit_gie (c : Params) (s : State) : (modeExit c s).gie = s.gie := rfl
@[simp] theorem modeExit_bridge (c : Params) (s : State) : (modeExit c s).bridge = .neutral := rfl
@[simp] theorem modeExit_pwmWidth (c : Params) (s : State) : (modeExit c s).pwmWidth = 0 := Nat.zero_min _
@[simp] theorem modeExit_txLog (c : Params) (s : State) : (modeExit c s).txLog = s.txLog := rfl
@[simp] theorem modeExit_colorIndex (c : Params) (s : State) : (modeExit c s).colorIndex = s.colorIndex := rfl
@[simp] theorem modeExit_colorRefresh (c : Params) (s : State) : (modeExit c s).colorRefresh = s.colorRefresh := rfl
@[simp] theorem modeExit_bridgeLog (c : Params) (s : State) : (modeExit c s).bridgeLog = s.bridgeLog ++ [.neutral] := rfl
@[simp] theorem modeExit_ackLog (c : Params) (s : State) : (modeExit c s).ackLog = s.ackLog := rfl
@[simp] theorem modeExit_agenda (c : Params) (s : State) : (modeExit c s).agenda = s.agenda := rfl
@[simp] theorem modeExit_draws (c : Params) (s : State) : (modeExit c s).draws = s.draws := rfl

/-! ## `recordFrame` -/

@[simp] theorem recordFrame_pstate (c : Params) (f : BitVec 3) (s : State) : (recordFrame c f s).pstate = s.pstate := rfl
@[simp] theorem recordFrame_dutyRaw (c : Params) (f : BitVec 3) (s : State) : (recordFrame c f s).dutyRaw = s.dutyRaw := rfl
@[simp] theorem recordFrame_rxPending (c : Params) (f : BitVec 3) (s : State) : (recordFrame c f s).rxPending = s.rxPending := rfl
@[simp] theorem recordFrame_rxBuf (c : Params) (f : BitVec 3) (s : State) : (recordFrame c f s).rxBuf = s.rxBuf := rfl
@[simp] theorem recordFrame_rxFerr (c : Params) (f : BitVec 3) (s : State) : (recordFrame c f s).rxFerr = s.rxFerr := rfl
@[simp] theorem recordFrame_rxOerr (c : Params) (f : BitVec 3) (s : State) : (recordFrame c f s).rxOerr = s.rxOerr := rfl
@[simp] theorem recordFrame_rxPerr (c : Params) (f : BitVec 3) (s : State) : (recordFrame c f s).rxPerr = s.rxPerr := rfl
@[simp] theorem recordFrame_mode (c : Params) (f : BitVec 3) (s : State) : (recordFrame c f s).mode = s.mode := rfl
@[simp] theorem recordFrame_dutyPercent (c : Params) (f : BitVec 3) (s : State) : (recordFrame c f s).dutyPercent = calibratedDuty c s.dutyRaw := rfl
@[simp] theorem recordFrame_freqIndex (c : Params) (f : BitVec 3) (s : State) : (recordFrame c f s).freqIndex = f := rfl
@[simp] theorem recordFrame_amp (c : Params) (f : BitVec 3) (s : State) : (recordFrame c f s).amp = s.amp := rfl
@[simp] theorem recordFrame_phase (c : Params) (f : BitVec 3) (s : State) : (recordFrame c f s).phase = s.phase := rfl
@[simp] theorem recordFrame_lastSign (c : Params) (f : BitVec 3) (s : State) : (recordFrame c f s).lastSign = s.lastSign := rfl
@[simp] theorem recordFrame_wc (c : Params) (f : BitVec 3) (s : State) : (recordFrame c f s).wc = s.wc := rfl
@[simp] theorem recordFrame_bridgeEnabled (c : Params) (f : BitVec 3) (s : State) : (recordFrame c f s).bridgeEnabled = s.bridgeEnabled := rfl
@[simp] theorem recordFrame_appliedHalf (c : Params) (f : BitVec 3) (s : State) : (recordFrame c f s).appliedHalf = s.appliedHalf := rfl
@[simp] theorem recordFrame_dutyApplied (c : Params) (f : BitVec 3) (s : State) : (recordFrame c f s).dutyApplied = s.dutyApplied := rfl
@[simp] theorem recordFrame_squarePending (c : Params) (f : BitVec 3) (s : State) : (recordFrame c f s).squarePending = s.squarePending := rfl
@[simp] theorem recordFrame_taEn (c : Params) (f : BitVec 3) (s : State) : (recordFrame c f s).taEn = s.taEn := rfl
@[simp] theorem recordFrame_taReload (c : Params) (f : BitVec 3) (s : State) : (recordFrame c f s).taReload = s.taReload := rfl
@[simp] theorem recordFrame_tbEn (c : Params) (f : BitVec 3) (s : State) : (recordFrame c f s).tbEn = s.tbEn := rfl
@[simp] theorem recordFrame_tbPeriod (c : Params) (f : BitVec 3) (s : State) : (recordFrame c f s).tbPeriod = s.tbPeriod := rfl
@[simp] theorem recordFrame_taPending (c : Params) (f : BitVec 3) (s : State) : (recordFrame c f s).taPending = s.taPending := rfl
@[simp] theorem recordFrame_tbPending (c : Params) (f : BitVec 3) (s : State) : (recordFrame c f s).tbPending = s.tbPending := rfl
@[simp] theorem recordFrame_gie (c : Params) (f : BitVec 3) (s : State) : (recordFrame c f s).gie = s.gie := rfl
@[simp] theorem recordFrame_bridge (c : Params) (f : BitVec 3) (s : State) : (recordFrame c f s).bridge = s.bridge := rfl
@[simp] theorem recordFrame_pwmWidth (c : Params) (f : BitVec 3) (s : State) : (recordFrame c f s).pwmWidth = s.pwmWidth := rfl
@[simp] theorem recordFrame_txLog (c : Params) (f : BitVec 3) (s : State) : (recordFrame c f s).txLog = s.txLog := rfl
@[simp] theorem recordFrame_colorIndex (c : Params) (f : BitVec 3) (s : State) : (recordFrame c f s).colorIndex = s.dutyRaw := rfl
@[simp] theorem recordFrame_colorRefresh (c : Params) (f : BitVec 3) (s : State) : (recordFrame c f s).colorRefresh = true := rfl
@[simp] theorem recordFrame_bridgeLog (c : Params) (f : BitVec 3) (s : State) : (recordFrame c f s).bridgeLog = s.bridgeLog := rfl
@[simp] theorem recordFrame_ackLog (c : Params) (f : BitVec 3) (s : State) : (recordFrame c f s).ackLog = s.ackLog := rfl
@[simp] theorem recordFrame_agenda (c : Params) (f : BitVec 3) (s : State) : (recordFrame c f s).agenda = s.agenda := rfl
@[simp] theorem recordFrame_draws (c : Params) (f : BitVec 3) (s : State) : (recordFrame c f s).draws = s.draws := rfl

/-! ## `advancePhase` -/

@[simp] theorem advancePhase_pstate (c : Params) (s : State) : (advancePhase c s).pstate = s.pstate := rfl
@[simp] theorem advancePhase_dutyRaw (c : Params) (s : State) : (advancePhase c s).dutyRaw = s.dutyRaw := rfl
@[simp] theorem advancePhase_rxPending (c : Params) (s : State) : (advancePhase c s).rxPending = s.rxPending := rfl
@[simp] theorem advancePhase_rxBuf (c : Params) (s : State) : (advancePhase c s).rxBuf = s.rxBuf := rfl
@[simp] theorem advancePhase_rxFerr (c : Params) (s : State) : (advancePhase c s).rxFerr = s.rxFerr := rfl
@[simp] theorem advancePhase_rxOerr (c : Params) (s : State) : (advancePhase c s).rxOerr = s.rxOerr := rfl
@[simp] theorem advancePhase_rxPerr (c : Params) (s : State) : (advancePhase c s).rxPerr = s.rxPerr := rfl
@[simp] theorem advancePhase_mode (c : Params) (s : State) : (advancePhase c s).mode = s.mode := rfl
@[simp] theorem advancePhase_dutyPercent (c : Params) (s : State) : (advancePhase c s).dutyPercent = s.dutyPercent := rfl
@[simp] theorem advancePhase_freqIndex (c : Params) (s : State) : (advancePhase c s).freqIndex = s.freqIndex := rfl
@[simp] theorem advancePhase_amp (c : Params) (s : State) : (advancePhase c s).amp = s.amp := rfl
@[simp] theorem advancePhase_phase (c : Params) (s : State) : (advancePhase c s).phase = (s.phase + 1) % c.sineLen := rfl
@[simp] theorem advancePhase_lastSign (c : Params) (s : State) : (advancePhase c s).lastSign = s.lastSign := rfl
@[simp] theorem advancePhase_wc (c : Params) (s : State) : (advancePhase c s).wc = s.wc := rfl
@[simp] theorem advancePhase_bridgeEnabled (c : Params) (s : State) : (advancePhase c s).bridgeEnabled = s.bridgeEnabled := rfl
@[simp] theorem advancePhase_appliedHalf (c : Params) (s : State) : (advancePhase c s).appliedHalf = s.appliedHalf := rfl
@[simp] theorem advancePhase_dutyApplied (c : Params) (s : State) : (advancePhase c s).dutyApplied = s.dutyApplied := rfl
@[simp] theorem advancePhase_squarePending (c : Params) (s : State) : (advancePhase c s).squarePending = s.squarePending := rfl
@[simp] theorem advancePhase_taEn (c : Params) (s : State) : (advancePhase c s).taEn = s.taEn := rfl
@[simp] theorem advancePhase_taReload (c : Params) (s : State) : (advancePhase c s).taReload = sineReloadAt c s.freqIndex := rfl
@[simp] theorem advancePhase_tbEn (c : Params) (s : State) : (advancePhase c s).tbEn = s.tbEn := rfl
@[simp] theorem advancePhase_tbPeriod (c : Params) (s : State) : (advancePhase c s).tbPeriod = s.tbPeriod := rfl
@[simp] theorem advancePhase_taPending (c : Params) (s : State) : (advancePhase c s).taPending = s.taPending := rfl
@[simp] theorem advancePhase_tbPending (c : Params) (s : State) : (advancePhase c s).tbPending = s.tbPending := rfl
@[simp] theorem advancePhase_gie (c : Params) (s : State) : (advancePhase c s).gie = s.gie := rfl
@[simp] theorem advancePhase_bridge (c : Params) (s : State) : (advancePhase c s).bridge = s.bridge := rfl
@[simp] theorem advancePhase_pwmWidth (c : Params) (s : State) : (advancePhase c s).pwmWidth = s.pwmWidth := rfl
@[simp] theorem advancePhase_txLog (c : Params) (s : State) : (advancePhase c s).txLog = s.txLog := rfl
@[simp] theorem advancePhase_colorIndex (c : Params) (s : State) : (advancePhase c s).colorIndex = s.colorIndex := rfl
@[simp] theorem advancePhase_colorRefresh (c : Params) (s : State) : (advancePhase c s).colorRefresh = s.colorRefresh := rfl
@[simp] theorem advancePhase_bridgeLog (c : Params) (s : State) : (advancePhase c s).bridgeLog = s.bridgeLog := rfl
@[simp] theorem advancePhase_ackLog (c : Params) (s : State) : (advancePhase c s).ackLog = s.ackLog := rfl
@[simp] theorem advancePhase_agenda (c : Params) (s : State) : (advancePhase c s).agenda = s.agenda := rfl
@[simp] theorem advancePhase_draws (c : Params) (s : State) : (advancePhase c s).draws = s.draws := rfl

/-! ## `hostSetGie` -/

@[simp] theorem hostSetGie_pstate (v : Bool) (s : State) : (hostSetGie v s).pstate = s.pstate := rfl
@[simp] theorem hostSetGie_dutyRaw (v : Bool) (s : State) : (hostSetGie v s).dutyRaw = s.dutyRaw := rfl
@[simp] theorem hostSetGie_rxPending (v : Bool) (s : State) : (hostSetGie v s).rxPending = s.rxPending := rfl
@[simp] theorem hostSetGie_rxBuf (v : Bool) (s : State) : (hostSetGie v s).rxBuf = s.rxBuf := rfl
@[simp] theorem hostSetGie_rxFerr (v : Bool) (s : State) : (hostSetGie v s).rxFerr = s.rxFerr := rfl
@[simp] theorem hostSetGie_rxOerr (v : Bool) (s : State) : (hostSetGie v s).rxOerr = s.rxOerr := rfl
@[simp] theorem hostSetGie_rxPerr (v : Bool) (s : State) : (hostSetGie v s).rxPerr = s.rxPerr := rfl
@[simp] theorem hostSetGie_mode (v : Bool) (s : State) : (hostSetGie v s).mode = s.mode := rfl
@[simp] theorem hostSetGie_dutyPercent (v : Bool) (s : State) : (hostSetGie v s).dutyPercent = s.dutyPercent := rfl
@[simp] theorem hostSetGie_freqIndex (v : Bool) (s : State) : (hostSetGie v s).freqIndex = s.freqIndex := rfl
@[simp] theorem hostSetGie_amp (v : Bool) (s : State) : (hostSetGie v s).amp = s.amp := rfl
@[simp] theorem hostSetGie_phase (v : Bool) (s : State) : (hostSetGie v s).phase = s.phase := rfl
@[simp] theorem hostSetGie_lastSign (v : Bool) (s : State) : (hostSetGie v s).lastSign = s.lastSign := rfl
@[simp] theorem hostSetGie_wc (v : Bool) (s : State) : (hostSetGie v s).wc = s.wc := rfl
@[simp] theorem hostSetGie_bridgeEnabled (v : Bool) (s : State) : (hostSetGie v s).bridgeEnabled = s.bridgeEnabled := rfl
@[simp] theorem hostSetGie_appliedHalf (v : Bool) (s : State) : (hostSetGie v s).appliedHalf = s.appliedHalf := rfl
@[simp] theorem hostSetGie_dutyApplied (v : Bool) (s : State) : (hostSetGie v s).dutyApplied = s.dutyApplied := rfl
@[simp] theorem hostSetGie_squarePending (v : Bool) (s : State) : (hostSetGie v s).squarePending = s.squarePending := rfl
@[simp] theorem hostSetGie_taEn (v : Bool) (s : State) : (hostSetGie v s).taEn = s.taEn := rfl
@[simp] theorem hostSetGie_taReload (v : Bool) (s : State) : (hostSetGie v s).taReload = s.taReload := rfl
@[simp] theorem hostSetGie_tbEn (v : Bool) (s : State) : (hostSetGie v s).tbEn = s.tbEn := rfl
@[simp] theorem hostSetGie_tbPeriod (v : Bool) (s : State) : (hostSetGie v s).tbPeriod = s.tbPeriod := rfl
@[simp] theorem hostSetGie_taPending (v : Bool) (s : State) : (hostSetGie v s).taPending = s.taPending := rfl
@[simp] theorem hostSetGie_tbPending (v : Bool) (s : State) : (hostSetGie v s).tbPending = s.tbPending := rfl
@[simp] theorem hostSetGie_gie (v : Bool) (s : State) : (hostSetGie v s).gie = v := rfl
@[simp] theorem hostSetGie_bridge (v : Bool) (s : State) : (hostSetGie v s).bridge = s.bridge := rfl
@[simp] theorem hostSetGie_pwmWidth (v : Bool) (s : State) : (hostSetGie v s).pwmWidth = s.pwmWidth := rfl
@[simp] theorem hostSetGie_txLog (v : Bool) (s : State) : (hostSetGie v s).txLog = s.txLog := rfl
@[simp] theorem hostSetGie_colorIndex (v : Bool) (s : State) : (hostSetGie v s).colorIndex = s.colorIndex := rfl
@[simp] theorem hostSetGie_colorRefresh (v : Bool) (s : State) : (hostSetGie v s).colorRefresh = s.colorRefresh := rfl
@[simp] theorem hostSetGie_bridgeLog (v : Bool) (s : State) : (hostSetGie v s).bridgeLog = s.bridgeLog := rfl
@[simp] theorem hostSetGie_ackLog (v : Bool) (s : State) : (hostSetGie v s).ackLog = s.ackLog := rfl
@[simp] theorem hostSetGie_agenda (v : Bool) (s : State) : (hostSetGie v s).agenda = s.agenda := rfl
@[simp] theorem hostSetGie_draws (v : Bool) (s : State) : (hostSetGie v s).draws = s.draws := rfl

/-! ## `hostAckColor` -/

@[simp] theorem hostAckColor_pstate (s : State) : (hostAckColor s).pstate = s.pstate := rfl
@[simp] theorem hostAckColor_dutyRaw (s : State) : (hostAckColor s).dutyRaw = s.dutyRaw := rfl
@[simp] theorem hostAckColor_rxPending (s : State) : (hostAckColor s).rxPending = s.rxPending := rfl
@[simp] theorem hostAckColor_rxBuf (s : State) : (hostAckColor s).rxBuf = s.rxBuf := rfl
@[simp] theorem hostAckColor_rxFerr (s : State) : (hostAckColor s).rxFerr = s.rxFerr := rfl
@[simp] theorem hostAckColor_rxOerr (s : State) : (hostAckColor s).rxOerr = s.rxOerr := rfl
@[simp] theorem hostAckColor_rxPerr (s : State) : (hostAckColor s).rxPerr = s.rxPerr := rfl
@[simp] theorem hostAckColor_mode (s : State) : (hostAckColor s).mode = s.mode := rfl
@[simp] theorem hostAckColor_dutyPercent (s : State) : (hostAckColor s).dutyPercent = s.dutyPercent := rfl
@[simp] theorem hostAckColor_freqIndex (s : State) : (hostAckColor s).freqIndex = s.freqIndex := rfl
@[simp] theorem hostAckColor_amp (s : State) : (hostAckColor s).amp = s.amp := rfl
@[simp] theorem hostAckColor_phase (s : State) : (hostAckColor s).phase = s.phase := rfl
@[simp] theorem hostAckColor_lastSign (s : State) : (hostAckColor s).lastSign = s.lastSign := rfl
@[simp] theorem hostAckColor_wc (s : State) : (hostAckColor s).wc = s.wc := rfl
@[simp] theorem hostAckColor_bridgeEnabled (s : State) : (hostAckColor s).bridgeEnabled = s.bridgeEnabled := rfl
@[simp] theorem hostAckColor_appliedHalf (s : State) : (hostAckColor s).appliedHalf = s.appliedHalf := rfl
@[simp] theorem hostAckColor_dutyApplied (s : State) : (hostAckColor s).dutyApplied = s.dutyApplied := rfl
@[simp] theorem hostAckColor_squarePending (s : State) : (hostAckColor s).squarePending = s.squarePending := rfl
@[simp] theorem hostAckColor_taEn (s : State) : (hostAckColor s).taEn = s.taEn := rfl
@[simp] theorem hostAckColor_taReload (s : State) : (hostAckColor s).taReload = s.taReload := rfl
@[simp] theorem hostAckColor_tbEn (s : State) : (hostAckColor s).tbEn = s.tbEn := rfl
@[simp] theorem hostAckColor_tbPeriod (s : State) : (hostAckColor s).tbPeriod = s.tbPeriod := rfl
@[simp] theorem hostAckColor_taPending (s : State) : (hostAckColor s).taPending = s.taPending := rfl
@[simp] theorem hostAckColor_tbPending (s : State) : (hostAckColor s).tbPending = s.tbPending := rfl
@[simp] theorem hostAckColor_gie (s : State) : (hostAckColor s).gie = s.gie := rfl
@[simp] theorem hostAckColor_bridge (s : State) : (hostAckColor s).bridge = s.bridge := rfl
@[simp] theorem hostAckColor_pwmWidth (s : State) : (hostAckColor s).pwmWidth = s.pwmWidth := rfl
@[simp] theorem hostAckColor_txLog (s : State) : (hostAckColor s).txLog = s.txLog := rfl
@[simp] theorem hostAckColor_colorIndex (s : State) : (hostAckColor s).colorIndex = s.colorIndex := rfl
@[simp] theorem hostAckColor_colorRefresh (s : State) : (hostAckColor s).colorRefresh = false := rfl
@[simp] theorem hostAckColor_bridgeLog (s : State) : (hostAckColor s).bridgeLog = s.bridgeLog := rfl
@[simp] theorem hostAckColor_ackLog (s : State) : (hostAckColor s).ackLog = s.ackLog ++ [s.colorIndex] := rfl
@[simp] theorem hostAckColor_agenda (s : State) : (hostAckColor s).agenda = s.agenda := rfl
@[simp] theorem hostAckColor_draws (s : State) : (hostAckColor s).draws = s.draws := rfl

/-! ## `takeAction`: only the model's own agenda and draw count move -/

@[simp] theorem takeAction_pstate (s : State) : (takeAction s).pstate = s.pstate := by
  unfold takeAction; split <;> rfl
@[simp] theorem takeAction_dutyRaw (s : State) : (takeAction s).dutyRaw = s.dutyRaw := by
  unfold takeAction; split <;> rfl
@[simp] theorem takeAction_rxPending (s : State) : (takeAction s).rxPending = s.rxPending := by
  unfold takeAction; split <;> rfl
@[simp] theorem takeAction_rxBuf (s : State) : (takeAction s).rxBuf = s.rxBuf := by
  unfold takeAction; split <;> rfl
@[simp] theorem takeAction_rxFerr (s : State) : (takeAction s).rxFerr = s.rxFerr := by
  unfold takeAction; split <;> rfl
@[simp] theorem takeAction_rxOerr (s : State) : (takeAction s).rxOerr = s.rxOerr := by
  unfold takeAction; split <;> rfl
@[simp] theorem takeAction_rxPerr (s : State) : (takeAction s).rxPerr = s.rxPerr := by
  unfold takeAction; split <;> rfl
@[simp] theorem takeAction_mode (s : State) : (takeAction s).mode = s.mode := by
  unfold takeAction; split <;> rfl
@[simp] theorem takeAction_dutyPercent (s : State) : (takeAction s).dutyPercent = s.dutyPercent := by
  unfold takeAction; split <;> rfl
@[simp] theorem takeAction_freqIndex (s : State) : (takeAction s).freqIndex = s.freqIndex := by
  unfold takeAction; split <;> rfl
@[simp] theorem takeAction_amp (s : State) : (takeAction s).amp = s.amp := by
  unfold takeAction; split <;> rfl
@[simp] theorem takeAction_phase (s : State) : (takeAction s).phase = s.phase := by
  unfold takeAction; split <;> rfl
@[simp] theorem takeAction_lastSign (s : State) : (takeAction s).lastSign = s.lastSign := by
  unfold takeAction; split <;> rfl
@[simp] theorem takeAction_wc (s : State) : (takeAction s).wc = s.wc := by
  unfold takeAction; split <;> rfl
@[simp] theorem takeAction_bridgeEnabled (s : State) : (takeAction s).bridgeEnabled = s.bridgeEnabled := by
  unfold takeAction; split <;> rfl
@[simp] theorem takeAction_appliedHalf (s : State) : (takeAction s).appliedHalf = s.appliedHalf := by
  unfold takeAction; split <;> rfl
@[simp] theorem takeAction_dutyApplied (s : State) : (takeAction s).dutyApplied = s.dutyApplied := by
  unfold takeAction; split <;> rfl
@[simp] theorem takeAction_squarePending (s : State) : (takeAction s).squarePending = s.squarePending := by
  unfold takeAction; split <;> rfl
@[simp] theorem takeAction_taEn (s : State) : (takeAction s).taEn = s.taEn := by
  unfold takeAction; split <;> rfl
@[simp] theorem takeAction_taReload (s : State) : (takeAction s).taReload = s.taReload := by
  unfold takeAction; split <;> rfl
@[simp] theorem takeAction_tbEn (s : State) : (takeAction s).tbEn = s.tbEn := by
  unfold takeAction; split <;> rfl
@[simp] theorem takeAction_tbPeriod (s : State) : (takeAction s).tbPeriod = s.tbPeriod := by
  unfold takeAction; split <;> rfl
@[simp] theorem takeAction_taPending (s : State) : (takeAction s).taPending = s.taPending := by
  unfold takeAction; split <;> rfl
@[simp] theorem takeAction_tbPending (s : State) : (takeAction s).tbPending = s.tbPending := by
  unfold takeAction; split <;> rfl
@[simp] theorem takeAction_gie (s : State) : (takeAction s).gie = s.gie := by
  unfold takeAction; split <;> rfl
@[simp] theorem takeAction_bridge (s : State) : (takeAction s).bridge = s.bridge := by
  unfold takeAction; split <;> rfl
@[simp] theorem takeAction_pwmWidth (s : State) : (takeAction s).pwmWidth = s.pwmWidth := by
  unfold takeAction; split <;> rfl
@[simp] theorem takeAction_txLog (s : State) : (takeAction s).txLog = s.txLog := by
  unfold takeAction; split <;> rfl
@[simp] theorem takeAction_colorIndex (s : State) : (takeAction s).colorIndex = s.colorIndex := by
  unfold takeAction; split <;> rfl
@[simp] theorem takeAction_colorRefresh (s : State) : (takeAction s).colorRefresh = s.colorRefresh := by
  unfold takeAction; split <;> rfl
@[simp] theorem takeAction_bridgeLog (s : State) : (takeAction s).bridgeLog = s.bridgeLog := by
  unfold takeAction; split <;> rfl
@[simp] theorem takeAction_ackLog (s : State) : (takeAction s).ackLog = s.ackLog := by
  unfold takeAction; split <;> rfl

end Sys2Proof.Machine
end

