-- ==== Sys2Proof/Laws/Frame.lean ====
section
/-! SUPPORT. The frame of each operation that writes under a condition: one lemma for each field it never writes. -/

namespace Sys2Proof.Machine

open Sys2Proof.Config

/-! ## `rxArrive` -/

@[simp] theorem rxArrive_pstate (b : Byte) (fe pe : Bool) (s : State) : (rxArrive b fe pe s).pstate = s.pstate := by
  unfold rxArrive; split <;> rfl
@[simp] theorem rxArrive_dutyRaw (b : Byte) (fe pe : Bool) (s : State) : (rxArrive b fe pe s).dutyRaw = s.dutyRaw := by
  unfold rxArrive; split <;> rfl
@[simp] theorem rxArrive_mode (b : Byte) (fe pe : Bool) (s : State) : (rxArrive b fe pe s).mode = s.mode := by
  unfold rxArrive; split <;> rfl
@[simp] theorem rxArrive_dutyPercent (b : Byte) (fe pe : Bool) (s : State) : (rxArrive b fe pe s).dutyPercent = s.dutyPercent := by
  unfold rxArrive; split <;> rfl
@[simp] theorem rxArrive_freqIndex (b : Byte) (fe pe : Bool) (s : State) : (rxArrive b fe pe s).freqIndex = s.freqIndex := by
  unfold rxArrive; split <;> rfl
@[simp] theorem rxArrive_amp (b : Byte) (fe pe : Bool) (s : State) : (rxArrive b fe pe s).amp = s.amp := by
  unfold rxArrive; split <;> rfl
@[simp] theorem rxArrive_phase (b : Byte) (fe pe : Bool) (s : State) : (rxArrive b fe pe s).phase = s.phase := by
  unfold rxArrive; split <;> rfl
@[simp] theorem rxArrive_lastSign (b : Byte) (fe pe : Bool) (s : State) : (rxArrive b fe pe s).lastSign = s.lastSign := by
  unfold rxArrive; split <;> rfl
@[simp] theorem rxArrive_wc (b : Byte) (fe pe : Bool) (s : State) : (rxArrive b fe pe s).wc = s.wc := by
  unfold rxArrive; split <;> rfl
@[simp] theorem rxArrive_bridgeEnabled (b : Byte) (fe pe : Bool) (s : State) : (rxArrive b fe pe s).bridgeEnabled = s.bridgeEnabled := by
  unfold rxArrive; split <;> rfl
@[simp] theorem rxArrive_appliedHalf (b : Byte) (fe pe : Bool) (s : State) : (rxArrive b fe pe s).appliedHalf = s.appliedHalf := by
  unfold rxArrive; split <;> rfl
@[simp] theorem rxArrive_dutyApplied (b : Byte) (fe pe : Bool) (s : State) : (rxArrive b fe pe s).dutyApplied = s.dutyApplied := by
  unfold rxArrive; split <;> rfl
@[simp] theorem rxArrive_squarePending (b : Byte) (fe pe : Bool) (s : State) : (rxArrive b fe pe s).squarePending = s.squarePending := by
  unfold rxArrive; split <;> rfl
@[simp] theorem rxArrive_taEn (b : Byte) (fe pe : Bool) (s : State) : (rxArrive b fe pe s).taEn = s.taEn := by
  unfold rxArrive; split <;> rfl
@[simp] theorem rxArrive_taReload (b : Byte) (fe pe : Bool) (s : State) : (rxArrive b fe pe s).taReload = s.taReload := by
  unfold rxArrive; split <;> rfl
@[simp] theorem rxArrive_tbEn (b : Byte) (fe pe : Bool) (s : State) : (rxArrive b fe pe s).tbEn = s.tbEn := by
  unfold rxArrive; split <;> rfl
@[simp] theorem rxArrive_tbPeriod (b : Byte) (fe pe : Bool) (s : State) : (rxArrive b fe pe s).tbPeriod = s.tbPeriod := by
  unfold rxArrive; split <;> rfl
@[simp] theorem rxArrive_taPending (b : Byte) (fe pe : Bool) (s : State) : (rxArrive b fe pe s).taPending = s.taPending := by
  unfold rxArrive; split <;> rfl
@[simp] theorem rxArrive_tbPending (b : Byte) (fe pe : Bool) (s : State) : (rxArrive b fe pe s).tbPending = s.tbPending := by
  unfold rxArrive; split <;> rfl
@[simp] theorem rxArrive_gie (b : Byte) (fe pe : Bool) (s : State) : (rxArrive b fe pe s).gie = s.gie := by
  unfold rxArrive; split <;> rfl
@[simp] theorem rxArrive_bridge (b : Byte) (fe pe : Bool) (s : State) : (rxArrive b fe pe s).bridge = s.bridge := by
  unfold rxArrive; split <;> rfl
@[simp] theorem rxArrive_pwmWidth (b : Byte) (fe pe : Bool) (s : State) : (rxArrive b fe pe s).pwmWidth = s.pwmWidth := by
  unfold rxArrive; split <;> rfl
@[simp] theorem rxArrive_txLog (b : Byte) (fe pe : Bool) (s : State) : (rxArrive b fe pe s).txLog = s.txLog := by
  unfold rxArrive; split <;> rfl
@[simp] theorem rxArrive_colorIndex (b : Byte) (fe pe : Bool) (s : State) : (rxArrive b fe pe s).colorIndex = s.colorIndex := by
  unfold rxArrive; split <;> rfl
@[simp] theorem rxArrive_colorRefresh (b : Byte) (fe pe : Bool) (s : State) : (rxArrive b fe pe s).colorRefresh = s.colorRefresh := by
  unfold rxArrive; split <;> rfl
@[simp] theorem rxArrive_bridgeLog (b : Byte) (fe pe : Bool) (s : State) : (rxArrive b fe pe s).bridgeLog = s.bridgeLog := by
  unfold rxArrive; split <;> rfl
@[simp] theorem rxArrive_ackLog (b : Byte) (fe pe : Bool) (s : State) : (rxArrive b fe pe s).ackLog = s.ackLog := by
  unfold rxArrive; split <;> rfl
@[simp] theorem rxArrive_agenda (b : Byte) (fe pe : Bool) (s : State) : (rxArrive b fe pe s).agenda = s.agenda := by
  unfold rxArrive; split <;> rfl
@[simp] theorem rxArrive_draws (b : Byte) (fe pe : Bool) (s : State) : (rxArrive b fe pe s).draws = s.draws := by
  unfold rxArrive; split <;> rfl

/-! ## `expireA` -/

@[simp] theorem expireA_pstate (s : State) : (expireA s).pstate = s.pstate := by
  unfold expireA; split <;> rfl
@[simp] theorem expireA_dutyRaw (s : State) : (expireA s).dutyRaw = s.dutyRaw := by
  unfold expireA; split <;> rfl
@[simp] theorem expireA_rxPending (s : State) : (expireA s).rxPending = s.rxPending := by
  unfold expireA; split <;> rfl
@[simp] theorem expireA_rxBuf (s : State) : (expireA s).rxBuf = s.rxBuf := by
  unfold expireA; split <;> rfl
@[simp] theorem expireA_rxFerr (s : State) : (expireA s).rxFerr = s.rxFerr := by
  unfold expireA; split <;> rfl
@[simp] theorem expireA_rxOerr (s : State) : (expireA s).rxOerr = s.rxOerr := by
  unfold expireA; split <;> rfl
@[simp] theorem expireA_rxPerr (s : State) : (expireA s).rxPerr = s.rxPerr := by
  unfold expireA; split <;> rfl
@[simp] theorem expireA_mode (s : State) : (expireA s).mode = s.mode := by
  unfold expireA; split <;> rfl
@[simp] theorem expireA_dutyPercent (s : State) : (expireA s).dutyPercent = s.dutyPercent := by
  unfold expireA; split <;> rfl
@[simp] theorem expireA_freqIndex (s : State) : (expireA s).freqIndex = s.freqIndex := by
  unfold expireA; split <;> rfl
@[simp] theorem expireA_amp (s : State) : (expireA s).amp = s.amp := by
  unfold expireA; split <;> rfl
@[simp] theorem expireA_phase (s : State) : (expireA s).phase = s.phase := by
  unfold expireA; split <;> rfl
@[simp] theorem expireA_lastSign (s : State) : (expireA s).lastSign = s.lastSign := by
  unfold expireA; split <;> rfl
@[simp] theorem expireA_wc (s : State) : (expireA s).wc = s.wc := by
  unfold expireA; split <;> rfl
@[simp] theorem expireA_bridgeEnabled (s : State) : (expireA s).bridgeEnabled = s.bridgeEnabled := by
  unfold expireA; split <;> rfl
@[simp] theorem expireA_appliedHalf (s : State) : (expireA s).appliedHalf = s.appliedHalf := by
  unfold expireA; split <;> rfl
@[simp] theorem expireA_dutyApplied (s : State) : (expireA s).dutyApplied = s.dutyApplied := by
  unfold expireA; split <;> rfl
@[simp] theorem expireA_squarePending (s : State) : (expireA s).squarePending = s.squarePending := by
  unfold expireA; split <;> rfl
@[simp] theorem expireA_taEn (s : State) : (expireA s).taEn = s.taEn := by
  unfold expireA; split <;> rfl
@[simp] theorem expireA_taReload (s : State) : (expireA s).taReload = s.taReload := by
  unfold expireA; split <;> rfl
@[simp] theorem expireA_tbEn (s : State) : (expireA s).tbEn = s.tbEn := by
  unfold expireA; split <;> rfl
@[simp] theorem expireA_tbPeriod (s : State) : (expireA s).tbPeriod = s.tbPeriod := by
  unfold expireA; split <;> rfl
@[simp] theorem expireA_tbPending (s : State) : (expireA s).tbPending = s.tbPending := by
  unfold expireA; split <;> rfl
@[simp] theorem expireA_gie (s : State) : (expireA s).gie = s.gie := by
  unfold expireA; split <;> rfl
@[simp] theorem expireA_bridge (s : State) : (expireA s).bridge = s.bridge := by
  unfold expireA; split <;> rfl
@[simp] theorem expireA_pwmWidth (s : State) : (expireA s).pwmWidth = s.pwmWidth := by
  unfold expireA; split <;> rfl
@[simp] theorem expireA_txLog (s : State) : (expireA s).txLog = s.txLog := by
  unfold expireA; split <;> rfl
@[simp] theorem expireA_colorIndex (s : State) : (expireA s).colorIndex = s.colorIndex := by
  unfold expireA; split <;> rfl
@[simp] theorem expireA_colorRefresh (s : State) : (expireA s).colorRefresh = s.colorRefresh := by
  unfold expireA; split <;> rfl
@[simp] theorem expireA_bridgeLog (s : State) : (expireA s).bridgeLog = s.bridgeLog := by
  unfold expireA; split <;> rfl
@[simp] theorem expireA_ackLog (s : State) : (expireA s).ackLog = s.ackLog := by
  unfold expireA; split <;> rfl
@[simp] theorem expireA_agenda (s : State) : (expireA s).agenda = s.agenda := by
  unfold expireA; split <;> rfl
@[simp] theorem expireA_draws (s : State) : (expireA s).draws = s.draws := by
  unfold expireA; split <;> rfl

/-! ## `expireB` -/

@[simp] theorem expireB_pstate (s : State) : (expireB s).pstate = s.pstate := by
  unfold expireB; split <;> rfl
@[simp] theorem expireB_dutyRaw (s : State) : (expireB s).dutyRaw = s.dutyRaw := by
  unfold expireB; split <;> rfl
@[simp] theorem expireB_rxPending (s : State) : (expireB s).rxPending = s.rxPending := by
  unfold expireB; split <;> rfl
@[simp] theorem expireB_rxBuf (s : State) : (expireB s).rxBuf = s.rxBuf := by
  unfold expireB; split <;> rfl
@[simp] theorem expireB_rxFerr (s : State) : (expireB s).rxFerr = s.rxFerr := by
  unfold expireB; split <;> rfl
@[simp] theorem expireB_rxOerr (s : State) : (expireB s).rxOerr = s.rxOerr := by
  unfold expireB; split <;> rfl
@[simp] theorem expireB_rxPerr (s : State) : (expireB s).rxPerr = s.rxPerr := by
  unfold expireB; split <;> rfl
@[simp] theorem expireB_mode (s : State) : (expireB s).mode = s.mode := by
  unfold expireB; split <;> rfl
@[simp] theorem expireB_dutyPercent (s : State) : (expireB s).dutyPercent = s.dutyPercent := by
  unfold expireB; split <;> rfl
@[simp] theorem expireB_freqIndex (s : State) : (expireB s).freqIndex = s.freqIndex := by
  unfold expireB; split <;> rfl
@[simp] theorem expireB_amp (s : State) : (expireB s).amp = s.amp := by
  unfold expireB; split <;> rfl
@[simp] theorem expireB_phase (s : State) : (expireB s).phase = s.phase := by
  unfold expireB; split <;> rfl
@[simp] theorem expireB_lastSign (s : State) : (expireB s).lastSign = s.lastSign := by
  unfold expireB; split <;> rfl
@[simp] theorem expireB_wc (s : State) : (expireB s).wc = s.wc := by
  unfold expireB; split <;> rfl
@[simp] theorem expireB_bridgeEnabled (s : State) : (expireB s).bridgeEnabled = s.bridgeEnabled := by
  unfold expireB; split <;> rfl
@[simp] theorem expireB_appliedHalf (s : State) : (expireB s).appliedHalf = s.appliedHalf := by
  unfold expireB; split <;> rfl
@[simp] theorem expireB_dutyApplied (s : State) : (expireB s).dutyApplied = s.dutyApplied := by
  unfold expireB; split <;> rfl
@[simp] theorem expireB_squarePending (s : State) : (expireB s).squarePending = s.squarePending := by
  unfold expireB; split <;> rfl
@[simp] theorem expireB_taEn (s : State) : (expireB s).taEn = s.taEn := by
  unfold expireB; split <;> rfl
@[simp] theorem expireB_taReload (s : State) : (expireB s).taReload = s.taReload := by
  unfold expireB; split <;> rfl
@[simp] theorem expireB_tbEn (s : State) : (expireB s).tbEn = s.tbEn := by
  unfold expireB; split <;> rfl
@[simp] theorem expireB_tbPeriod (s : State) : (expireB s).tbPeriod = s.tbPeriod := by
  unfold expireB; split <;> rfl
@[simp] theorem expireB_taPending (s : State) : (expireB s).taPending = s.taPending := by
  unfold expireB; split <;> rfl
@[simp] theorem expireB_gie (s : State) : (expireB s).gie = s.gie := by
  unfold expireB; split <;> rfl
@[simp] theorem expireB_bridge (s : State) : (expireB s).bridge = s.bridge := by
  unfold expireB; split <;> rfl
@[simp] theorem expireB_pwmWidth (s : State) : (expireB s).pwmWidth = s.pwmWidth := by
  unfold expireB; split <;> rfl
@[simp] theorem expireB_txLog (s : State) : (expireB s).txLog = s.txLog := by
  unfold expireB; split <;> rfl
@[simp] theorem expireB_colorIndex (s : State) : (expireB s).colorIndex = s.colorIndex := by
  unfold expireB; split <;> rfl
@[simp] theorem expireB_colorRefresh (s : State) : (expireB s).colorRefresh = s.colorRefresh := by
  unfold expireB; split <;> rfl
@[simp] theorem expireB_bridgeLog (s : State) : (expireB s).bridgeLog = s.bridgeLog := by
  unfold expireB; split <;> rfl
@[simp] theorem expireB_ackLog (s : State) : (expireB s).ackLog = s.ackLog := by
  unfold expireB; split <;> rfl
@[simp] theorem expireB_agenda (s : State) : (expireB s).agenda = s.agenda := by
  unfold expireB; split <;> rfl
@[simp] theorem expireB_draws (s : State) : (expireB s).draws = s.draws := by
  unfold expireB; split <;> rfl

/-! ## `squareTick` -/

@[simp] theorem squareTick_pstate (s : State) : (squareTick s).pstate = s.pstate := by
  unfold squareTick; split <;> rfl
@[simp] theorem squareTick_dutyRaw (s : State) : (squareTick s).dutyRaw = s.dutyRaw := by
  unfold squareTick; split <;> rfl
@[simp] theorem squareTick_rxPending (s : State) : (squareTick s).rxPending = s.rxPending := by
  unfold squareTick; split <;> rfl
@[simp] theorem squareTick_rxBuf (s : State) : (squareTick s).rxBuf = s.rxBuf := by
  unfold squareTick; split <;> rfl
@[simp] theorem squareTick_rxFerr (s : State) : (squareTick s).rxFerr = s.rxFerr := by
  unfold squareTick; split <;> rfl
@[simp] theorem squareTick_rxOerr (s : State) : (squareTick s).rxOerr = s.rxOerr := by
  unfold squareTick; split <;> rfl
@[simp] theorem squareTick_rxPerr (s : State) : (squareTick s).rxPerr = s.rxPerr := by
  unfold squareTick; split <;> rfl
@[simp] theorem squareTick_mode (s : State) : (squareTick s).mode = s.mode := by
  unfold squareTick; split <;> rfl
@[simp] theorem squareTick_dutyPercent (s : State) : (squareTick s).dutyPercent = s.dutyPercent := by
  unfold squareTick; split <;> rfl
@[simp] theorem squareTick_freqIndex (s : State) : (squareTick s).freqIndex = s.freqIndex := by
  unfold squareTick; split <;> rfl
@[simp] theorem squareTick_amp (s : State) : (squareTick s).amp = s.amp := by
  unfold squareTick; split <;> rfl
@[simp] theorem squareTick_phase (s : State) : (squareTick s).phase = s.phase := by
  unfold squareTick; split <;> rfl
@[simp] theorem squareTick_lastSign (s : State) : (squareTick s).lastSign = s.lastSign := by
  unfold squareTick; split <;> rfl
@[simp] theorem squareTick_bridgeEnabled (s : State) : (squareTick s).bridgeEnabled = s.bridgeEnabled := by
  unfold squareTick; split <;> rfl
@[simp] theorem squareTick_appliedHalf (s : State) : (squareTick s).appliedHalf = s.appliedHalf := by
  unfold squareTick; split <;> rfl
@[simp] theorem squareTick_dutyApplied (s : State) : (squareTick s).dutyApplied = s.dutyApplied := by
  unfold squareTick; split <;> rfl
@[simp] theorem squareTick_taEn (s : State) : (squareTick s).taEn = s.taEn := by
  unfold squareTick; split <;> rfl
@[simp] theorem squareTick_taReload (s : State) : (squareTick s).taReload = s.taReload := by
  unfold squareTick; split <;> rfl
@[simp] theorem squareTick_tbEn (s : State) : (squareTick s).tbEn = s.tbEn := by
  unfold squareTick; split <;> rfl
@[simp] theorem squareTick_tbPeriod (s : State) : (squareTick s).tbPeriod = s.tbPeriod := by
  unfold squareTick; split <;> rfl
@[simp] theorem squareTick_taPending (s : State) : (squareTick s).taPending = s.taPending := by
  unfold squareTick; split <;> rfl
@[simp] theorem squareTick_tbPending (s : State) : (squareTick s).tbPending = s.tbPending := by
  unfold squareTick; split <;> rfl
@[simp] theorem squareTick_gie (s : State) : (squareTick s).gie = s.gie := by
  unfold squareTick; split <;> rfl
@[simp] theorem squareTick_bridge (s : State) : (squareTick s).bridge = s.bridge := by
  unfold squareTick; split <;> rfl
@[simp] theorem squareTick_pwmWidth (s : State) : (squareTick s).pwmWidth = s.pwmWidth := by
  unfold squareTick; split <;> rfl
@[simp] theorem squareTick_txLog (s : State) : (squareTick s).txLog = s.txLog := by
  unfold squareTick; split <;> rfl
@[simp] theorem squareTick_colorIndex (s : State) : (squareTick s).colorIndex = s.colorIndex := by
  unfold squareTick; split <;> rfl
@[simp] theorem squareTick_colorRefresh (s : State) : (squareTick s).colorRefresh = s.colorRefresh := by
  unfold squareTick; split <;> rfl
@[simp] theorem squareTick_bridgeLog (s : State) : (squareTick s).bridgeLog = s.bridgeLog := by
  unfold squareTick; split <;> rfl
@[simp] theorem squareTick_ackLog (s : State) : (squareTick s).ackLog = s.ackLog := by
  unfold squareTick; split <;> rfl
@[simp] theorem squareTick_agenda (s : State) : (squareTick s).agenda = s.agenda := by
  unfold squareTick; split <;> rfl
@[simp] theorem squareTick_draws (s : State) : (squareTick s).draws = s.draws := by
  unfold squareTick; split <;> rfl

/-! ## `applyWindow` -/

@[simp] theorem applyWindow_pstate (c : Params) (on : Bool) (h : Half) (s : State) : (applyWindow c on h s).pstate = s.pstate := by
  cases on <;> simp [applyWindow]
@[simp] theorem applyWindow_dutyRaw (c : Params) (on : Bool) (h : Half) (s : State) : (applyWindow c on h s).dutyRaw = s.dutyRaw := by
  cases on <;> simp [applyWindow]
@[simp] theorem applyWindow_rxPending (c : Params) (on : Bool) (h : Half) (s : State) : (applyWindow c on h s).rxPending = s.rxPending := by
  cases on <;> simp [applyWindow]
@[simp] theorem applyWindow_rxBuf (c : Params) (on : Bool) (h : Half) (s : State) : (applyWindow c on h s).rxBuf = s.rxBuf := by
  cases on <;> simp [applyWindow]
@[simp] theorem applyWindow_rxFerr (c : Params) (on : Bool) (h : Half) (s : State) : (applyWindow c on h s).rxFerr = s.rxFerr := by
  cases on <;> simp [applyWindow]
@[simp] theorem applyWindow_rxOerr (c : Params) (on : Bool) (h : Half) (s : State) : (applyWindow c on h s).rxOerr = s.rxOerr := by
  cases on <;> simp [applyWindow]
@[simp] theorem applyWindow_rxPerr (c : Params) (on : Bool) (h : Half) (s : State) : (applyWindow c on h s).rxPerr = s.rxPerr := by
  cases on <;> simp [applyWindow]
@[simp] theorem applyWindow_mode (c : Params) (on : Bool) (h : Half) (s : State) : (applyWindow c on h s).mode = s.mode := by
  cases on <;> simp [applyWindow]
@[simp] theorem applyWindow_dutyPercent (c : Params) (on : Bool) (h : Half) (s : State) : (applyWindow c on h s).dutyPercent = s.dutyPercent := by
  cases on <;> simp [applyWindow]
@[simp] theorem applyWindow_freqIndex (c : Params) (on : Bool) (h : Half) (s : State) : (applyWindow c on h s).freqIndex = s.freqIndex := by
  cases on <;> simp [applyWindow]
@[simp] theorem applyWindow_amp (c : Params) (on : Bool) (h : Half) (s : State) : (applyWindow c on h s).amp = s.amp := by
  cases on <;> simp [applyWindow]
@[simp] theorem applyWindow_phase (c : Params) (on : Bool) (h : Half) (s : State) : (applyWindow c on h s).phase = s.phase := by
  cases on <;> simp [applyWindow]
@[simp] theorem applyWindow_lastSign (c : Params) (on : Bool) (h : Half) (s : State) : (applyWindow c on h s).lastSign = s.lastSign := by
  cases on <;> simp [applyWindow]
@[simp] theorem applyWindow_wc (c : Params) (on : Bool) (h : Half) (s : State) : (applyWindow c on h s).wc = s.wc := by
  cases on <;> simp [applyWindow]
@[simp] theorem applyWindow_squarePending (c : Params) (on : Bool) (h : Half) (s : State) : (applyWindow c on h s).squarePending = s.squarePending := by
  cases on <;> simp [applyWindow]
@[simp] theorem applyWindow_taEn (c : Params) (on : Bool) (h : Half) (s : State) : (applyWindow c on h s).taEn = s.taEn := by
  cases on <;> simp [applyWindow]
@[simp] theorem applyWindow_taReload (c : Params) (on : Bool) (h : Half) (s : State) : (applyWindow c on h s).taReload = s.taReload := by
  cases on <;> simp [applyWindow]
@[simp] theorem applyWindow_tbEn (c : Params) (on : Bool) (h : Half) (s : State) : (applyWindow c on h s).tbEn = s.tbEn := by
  cases on <;> simp [applyWindow]
@[simp] theorem applyWindow_tbPeriod (c : Params) (on : Bool) (h : Half) (s : State) : (applyWindow c on h s).tbPeriod = s.tbPeriod := by
  cases on <;> simp [applyWindow]
@[simp] theorem applyWindow_taPending (c : Params) (on : Bool) (h : Half) (s : State) : (applyWindow c on h s).taPending = s.taPending := by
  cases on <;> simp [applyWindow]
@[simp] theorem applyWindow_tbPending (c : Params) (on : Bool) (h : Half) (s : State) : (applyWindow c on h s).tbPending = s.tbPending := by
  cases on <;> simp [applyWindow]
@[simp] theorem applyWindow_gie (c : Params) (on : Bool) (h : Half) (s : State) : (applyWindow c on h s).gie = s.gie := by
  cases on <;> simp [applyWindow]
@[simp] theorem applyWindow_txLog (c : Params) (on : Bool) (h : Half) (s : State) : (applyWindow c on h s).txLog = s.txLog := by
  cases on <;> simp [applyWindow]
@[simp] theorem applyWindow_colorIndex (c : Params) (on : Bool) (h : Half) (s : State) : (applyWindow c on h s).colorIndex = s.colorIndex := by
  cases on <;> simp [applyWindow]
@[simp] theorem applyWindow_colorRefresh (c : Params) (on : Bool) (h : Half) (s : State) : (applyWindow c on h s).colorRefresh = s.colorRefresh := by
  cases on <;> simp [applyWindow]
@[simp] theorem applyWindow_ackLog (c : Params) (on : Bool) (h : Half) (s : State) : (applyWindow c on h s).ackLog = s.ackLog := by
  cases on <;> simp [applyWindow]
@[simp] theorem applyWindow_agenda (c : Params) (on : Bool) (h : Half) (s : State) : (applyWindow c on h s).agenda = s.agenda := by
  cases on <;> simp [applyWindow]
@[simp] theorem applyWindow_draws (c : Params) (on : Bool) (h : Half) (s : State) : (applyWindow c on h s).draws = s.draws := by
  cases on <;> simp [applyWindow]

/-! ## `squareProcess` -/

@[simp] theorem squareProcess_pstate (c : Params) (s : State) : (squareProcess c s).pstate = s.pstate := by
  unfold squareProcess; dsimp only; (repeat' split) <;> simp
@[simp] theorem squareProcess_dutyRaw (c : Params) (s : State) : (squareProcess c s).dutyRaw = s.dutyRaw := by
  unfold squareProcess; dsimp only; (repeat' split) <;> simp
@[simp] theorem squareProcess_rxPending (c : Params) (s : State) : (squareProcess c s).rxPending = s.rxPending := by
  unfold squareProcess; dsimp only; (repeat' split) <;> simp
@[simp] theorem squareProcess_rxBuf (c : Params) (s : State) : (squareProcess c s).rxBuf = s.rxBuf := by
  unfold squareProcess; dsimp only; (repeat' split) <;> simp
@[simp] theorem squareProcess_rxFerr (c : Params) (s : State) : (squareProcess c s).rxFerr = s.rxFerr := by
  unfold squareProcess; dsimp only; (repeat' split) <;> simp
@[simp] theorem squareProcess_rxOerr (c : Params) (s : State) : (squareProcess c s).rxOerr = s.rxOerr := by
  unfold squareProcess; dsimp only; (repeat' split) <;> simp
@[simp] theorem squareProcess_rxPerr (c : Params) (s : State) : (squareProcess c s).rxPerr = s.rxPerr := by
  unfold squareProcess; dsimp only; (repeat' split) <;> simp
@[simp] theorem squareProcess_mode (c : Params) (s : State) : (squareProcess c s).mode = s.mode := by
  unfold squareProcess; dsimp only; (repeat' split) <;> simp
@[simp] theorem squareProcess_dutyPercent (c : Params) (s : State) : (squareProcess c s).dutyPercent = s.dutyPercent := by
  unfold squareProcess; dsimp only; (repeat' split) <;> simp
@[simp] theorem squareProcess_freqIndex (c : Params) (s : State) : (squareProcess c s).freqIndex = s.freqIndex := by
  unfold squareProcess; dsimp only; (repeat' split) <;> simp
@[simp] theorem squareProcess_amp (c : Params) (s : State) : (squareProcess c s).amp = s.amp := by
  unfold squareProcess; dsimp only; (repeat' split) <;> simp
@[simp] theorem squareProcess_phase (c : Params) (s : State) : (squareProcess c s).phase = s.phase := by
  unfold squareProcess; dsimp only; (repeat' split) <;> simp
@[simp] theorem squareProcess_lastSign (c : Params) (s : State) : (squareProcess c s).lastSign = s.lastSign := by
  unfold squareProcess; dsimp only; (repeat' split) <;> simp
@[simp] theorem squareProcess_wc (c : Params) (s : State) : (squareProcess c s).wc = s.wc := by
  unfold squareProcess; dsimp only; (repeat' split) <;> simp
@[simp] theorem squareProcess_taEn (c : Params) (s : State) : (squareProcess c s).taEn = s.taEn := by
  unfold squareProcess; dsimp only; (repeat' split) <;> simp
@[simp] theorem squareProcess_taReload (c : Params) (s : State) : (squareProcess c s).taReload = s.taReload := by
  unfold squareProcess; dsimp only; (repeat' split) <;> simp
@[simp] theorem squareProcess_tbEn (c : Params) (s : State) : (squareProcess c s).tbEn = s.tbEn := by
  unfold squareProcess; dsimp only; (repeat' split) <;> simp
@[simp] theorem squareProcess_tbPeriod (c : Params) (s : State) : (squareProcess c s).tbPeriod = s.tbPeriod := by
  unfold squareProcess; dsimp only; (repeat' split) <;> simp
@[simp] theorem squareProcess_taPending (c : Params) (s : State) : (squareProcess c s).taPending = s.taPending := by
  unfold squareProcess; dsimp only; (repeat' split) <;> simp
@[simp] theorem squareProcess_tbPending (c : Params) (s : State) : (squareProcess c s).tbPending = s.tbPending := by
  unfold squareProcess; dsimp only; (repeat' split) <;> simp
@[simp] theorem squareProcess_gie (c : Params) (s : State) : (squareProcess c s).gie = s.gie := by
  unfold squareProcess; dsimp only; (repeat' split) <;> simp
@[simp] theorem squareProcess_txLog (c : Params) (s : State) : (squareProcess c s).txLog = s.txLog := by
  unfold squareProcess; dsimp only; (repeat' split) <;> simp
@[simp] theorem squareProcess_colorIndex (c : Params) (s : State) : (squareProcess c s).colorIndex = s.colorIndex := by
  unfold squareProcess; dsimp only; (repeat' split) <;> simp
@[simp] theorem squareProcess_colorRefresh (c : Params) (s : State) : (squareProcess c s).colorRefresh = s.colorRefresh := by
  unfold squareProcess; dsimp only; (repeat' split) <;> simp
@[simp] theorem squareProcess_ackLog (c : Params) (s : State) : (squareProcess c s).ackLog = s.ackLog := by
  unfold squareProcess; dsimp only; (repeat' split) <;> simp
@[simp] theorem squareProcess_agenda (c : Params) (s : State) : (squareProcess c s).agenda = s.agenda := by
  unfold squareProcess; dsimp only; (repeat' split) <;> simp
@[simp] theorem squareProcess_draws (c : Params) (s : State) : (squareProcess c s).draws = s.draws := by
  unfold squareProcess; dsimp only; (repeat' split) <;> simp

/-! ## `routeOnCrossing` -/

@[simp] theorem routeOnCrossing_pstate (sg : Sign) (s : State) : (routeOnCrossing sg s).pstate = s.pstate := by
  unfold routeOnCrossing; split <;> rfl
@[simp] theorem routeOnCrossing_dutyRaw (sg : Sign) (s : State) : (routeOnCrossing sg s).dutyRaw = s.dutyRaw := by
  unfold routeOnCrossing; split <;> rfl
@[simp] theorem routeOnCrossing_rxPending (sg : Sign) (s : State) : (routeOnCrossing sg s).rxPending = s.rxPending := by
  unfold routeOnCrossing; split <;> rfl
@[simp] theorem routeOnCrossing_rxBuf (sg : Sign) (s : State) : (routeOnCrossing sg s).rxBuf = s.rxBuf := by
  unfold routeOnCrossing; split <;> rfl
@[simp] theorem routeOnCrossing_rxFerr (sg : Sign) (s : State) : (routeOnCrossing sg s).rxFerr = s.rxFerr := by
  unfold routeOnCrossing; split <;> rfl
@[simp] theorem routeOnCrossing_rxOerr (sg : Sign) (s : State) : (routeOnCrossing sg s).rxOerr = s.rxOerr := by
  unfold routeOnCrossing; split <;> rfl
@[simp] theorem routeOnCrossing_rxPerr (sg : Sign) (s : State) : (routeOnCrossing sg s).rxPerr = s.rxPerr := by
  unfold routeOnCrossing; split <;> rfl
@[simp] theorem routeOnCrossing_mode (sg : Sign) (s : State) : (routeOnCrossing sg s).mode = s.mode := by
  unfold routeOnCrossing; split <;> rfl
@[simp] theorem routeOnCrossing_dutyPercent (sg : Sign) (s : State) : (routeOnCrossing sg s).dutyPercent = s.dutyPercent := by
  unfold routeOnCrossing; split <;> rfl
@[simp] theorem routeOnCrossing_freqIndex (sg : Sign) (s : State) : (routeOnCrossing sg s).freqIndex = s.freqIndex := by
  unfold routeOnCrossing; split <;> rfl
@[simp] theorem routeOnCrossing_amp (sg : Sign) (s : State) : (routeOnCrossing sg s).amp = s.amp := by
  unfold routeOnCrossing; split <;> rfl
@[simp] theorem routeOnCrossing_phase (sg : Sign) (s : State) : (routeOnCrossing sg s).phase = s.phase := by
  unfold routeOnCrossing; split <;> rfl
@[simp] theorem routeOnCrossing_wc (sg : Sign) (s : State) : (routeOnCrossing sg s).wc = s.wc := by
  unfold routeOnCrossing; split <;> rfl
@[simp] theorem routeOnCrossing_bridgeEnabled (sg : Sign) (s : State) : (routeOnCrossing sg s).bridgeEnabled = s.bridgeEnabled := by
  unfold routeOnCrossing; split <;> rfl
@[simp] theorem routeOnCrossing_appliedHalf (sg : Sign) (s : State) : (routeOnCrossing sg s).appliedHalf = s.appliedHalf := by
  unfold routeOnCrossing; split <;> rfl
@[simp] theorem routeOnCrossing_dutyApplied (sg : Sign) (s : State) : (routeOnCrossing sg s).dutyApplied = s.dutyApplied := by
  unfold routeOnCrossing; split <;> rfl
@[simp] theorem routeOnCrossing_squarePending (sg : Sign) (s : State) : (routeOnCrossing sg s).squarePending = s.squarePending := by
  unfold routeOnCrossing; split <;> rfl
@[simp] theorem routeOnCrossing_taEn (sg : Sign) (s : State) : (routeOnCrossing sg s).taEn = s.taEn := by
  unfold routeOnCrossing; split <;> rfl
@[simp] theorem routeOnCrossing_taReload (sg : Sign) (s : State) : (routeOnCrossing sg s).taReload = s.taReload := by
  unfold routeOnCrossing; split <;> rfl
@[simp] theorem routeOnCrossing_tbEn (sg : Sign) (s : State) : (routeOnCrossing sg s).tbEn = s.tbEn := by
  unfold routeOnCrossing; split <;> rfl
@[simp] theorem routeOnCrossing_tbPeriod (sg : Sign) (s : State) : (routeOnCrossing sg s).tbPeriod = s.tbPeriod := by
  unfold routeOnCrossing; split <;> rfl
@[simp] theorem routeOnCrossing_taPending (sg : Sign) (s : State) : (routeOnCrossing sg s).taPending = s.taPending := by
  unfold routeOnCrossing; split <;> rfl
@[simp] theorem routeOnCrossing_tbPending (sg : Sign) (s : State) : (routeOnCrossing sg s).tbPending = s.tbPending := by
  unfold routeOnCrossing; split <;> rfl
@[simp] theorem routeOnCrossing_gie (sg : Sign) (s : State) : (routeOnCrossing sg s).gie = s.gie := by
  unfold routeOnCrossing; split <;> rfl
@[simp] theorem routeOnCrossing_pwmWidth (sg : Sign) (s : State) : (routeOnCrossing sg s).pwmWidth = s.pwmWidth := by
  unfold routeOnCrossing; split <;> rfl
@[simp] theorem routeOnCrossing_txLog (sg : Sign) (s : State) : (routeOnCrossing sg s).txLog = s.txLog := by
  unfold routeOnCrossing; split <;> rfl
@[simp] theorem routeOnCrossing_colorIndex (sg : Sign) (s : State) : (routeOnCrossing sg s).colorIndex = s.colorIndex := by
  unfold routeOnCrossing; split <;> rfl
@[simp] theorem routeOnCrossing_colorRefresh (sg : Sign) (s : State) : (routeOnCrossing sg s).colorRefresh = s.colorRefresh := by
  unfold routeOnCrossing; split <;> rfl
@[simp] theorem routeOnCrossing_ackLog (sg : Sign) (s : State) : (routeOnCrossing sg s).ackLog = s.ackLog := by
  unfold routeOnCrossing; split <;> rfl
@[simp] theorem routeOnCrossing_agenda (sg : Sign) (s : State) : (routeOnCrossing sg s).agenda = s.agenda := by
  unfold routeOnCrossing; split <;> rfl
@[simp] theorem routeOnCrossing_draws (sg : Sign) (s : State) : (routeOnCrossing sg s).draws = s.draws := by
  unfold routeOnCrossing; split <;> rfl

/-! ## `driveSample` -/

@[simp] theorem driveSample_pstate (c : Params) (x : Int) (s : State) : (driveSample c x s).pstate = s.pstate := by
  unfold driveSample; dsimp only; split <;> simp
@[simp] theorem driveSample_dutyRaw (c : Params) (x : Int) (s : State) : (driveSample c x s).dutyRaw = s.dutyRaw := by
  unfold driveSample; dsimp only; split <;> simp
@[simp] theorem driveSample_rxPending (c : Params) (x : Int) (s : State) : (driveSample c x s).rxPending = s.rxPending := by
  unfold driveSample; dsimp only; split <;> simp
@[simp] theorem driveSample_rxBuf (c : Params) (x : Int) (s : State) : (driveSample c x s).rxBuf = s.rxBuf := by
  unfold driveSample; dsimp only; split <;> simp
@[simp] theorem driveSample_rxFerr (c : Params) (x : Int) (s : State) : (driveSample c x s).rxFerr = s.rxFerr := by
  unfold driveSample; dsimp only; split <;> simp
@[simp] theorem driveSample_rxOerr (c : Params) (x : Int) (s : State) : (driveSample c x s).rxOerr = s.rxOerr := by
  unfold driveSample; dsimp only; split <;> simp
@[simp] theorem driveSample_rxPerr (c : Params) (x : Int) (s : State) : (driveSample c x s).rxPerr = s.rxPerr := by
  unfold driveSample; dsimp only; split <;> simp
@[simp] theorem driveSample_mode (c : Params) (x : Int) (s : State) : (driveSample c x s).mode = s.mode := by
  unfold driveSample; dsimp only; split <;> simp
@[simp] theorem driveSample_dutyPercent (c : Params) (x : Int) (s : State) : (driveSample c x s).dutyPercent = s.dutyPercent := by
  unfold driveSample; dsimp only; split <;> simp
@[simp] theorem driveSample_freqIndex (c : Params) (x : Int) (s : State) : (driveSample c x s).freqIndex = s.freqIndex := by
  unfold driveSample; dsimp only; split <;> simp
@[simp] theorem driveSample_amp (c : Params) (x : Int) (s : State) : (driveSample c x s).amp = s.amp := by
  unfold driveSample; dsimp only; split <;> simp
@[simp] theorem driveSample_phase (c : Params) (x : Int) (s : State) : (driveSample c x s).phase = s.phase := by
  unfold driveSample; dsimp only; split <;> simp
@[simp] theorem driveSample_wc (c : Params) (x : Int) (s : State) : (driveSample c x s).wc = s.wc := by
  unfold driveSample; dsimp only; split <;> simp
@[simp] theorem driveSample_bridgeEnabled (c : Params) (x : Int) (s : State) : (driveSample c x s).bridgeEnabled = s.bridgeEnabled := by
  unfold driveSample; dsimp only; split <;> simp
@[simp] theorem driveSample_appliedHalf (c : Params) (x : Int) (s : State) : (driveSample c x s).appliedHalf = s.appliedHalf := by
  unfold driveSample; dsimp only; split <;> simp
@[simp] theorem driveSample_dutyApplied (c : Params) (x : Int) (s : State) : (driveSample c x s).dutyApplied = s.dutyApplied := by
  unfold driveSample; dsimp only; split <;> simp
@[simp] theorem driveSample_squarePending (c : Params) (x : Int) (s : State) : (driveSample c x s).squarePending = s.squarePending := by
  unfold driveSample; dsimp only; split <;> simp
@[simp] theorem driveSample_taEn (c : Params) (x : Int) (s : State) : (driveSample c x s).taEn = s.taEn := by
  unfold driveSample; dsimp only; split <;> simp
@[simp] theorem driveSample_taReload (c : Params) (x : Int) (s : State) : (driveSample c x s).taReload = s.taReload := by
  unfold driveSample; dsimp only; split <;> simp
@[simp] theorem driveSample_tbEn (c : Params) (x : Int) (s : State) : (driveSample c x s).tbEn = s.tbEn := by
  unfold driveSample; dsimp only; split <;> simp
@[simp] theorem driveSample_tbPeriod (c : Params) (x : Int) (s : State) : (driveSample c x s).tbPeriod = s.tbPeriod := by
  unfold driveSample; dsimp only; split <;> simp
@[simp] theorem driveSample_taPending (c : Params) (x : Int) (s : State) : (driveSample c x s).taPending = s.taPending := by
  unfold driveSample; dsimp only; split <;> simp
@[simp] theorem driveSample_tbPending (c : Params) (x : Int) (s : State) : (driveSample c x s).tbPending = s.tbPending := by
  unfold driveSample; dsimp only; split <;> simp
@[simp] theorem driveSample_gie (c : Params) (x : Int) (s : State) : (driveSample c x s).gie = s.gie := by
  unfold driveSample; dsimp only; split <;> simp
@[simp] theorem driveSample_txLog (c : Params) (x : Int) (s : State) : (driveSample c x s).txLog = s.txLog := by
  unfold driveSample; dsimp only; split <;> simp
@[simp] theorem driveSample_colorIndex (c : Params) (x : Int) (s : State) : (driveSample c x s).colorIndex = s.colorIndex := by
  unfold driveSample; dsimp only; split <;> simp
@[simp] theorem driveSample_colorRefresh (c : Params) (x : Int) (s : State) : (driveSample c x s).colorRefresh = s.colorRefresh := by
  unfold driveSample; dsimp only; split <;> simp
@[simp] theorem driveSample_ackLog (c : Params) (x : Int) (s : State) : (driveSample c x s).ackLog = s.ackLog := by
  unfold driveSample; dsimp only; split <;> simp
@[simp] theorem driveSample_agenda (c : Params) (x : Int) (s : State) : (driveSample c x s).agenda = s.agenda := by
  unfold driveSample; dsimp only; split <;> simp
@[simp] theorem driveSample_draws (c : Params) (x : Int) (s : State) : (driveSample c x s).draws = s.draws := by
  unfold driveSample; dsimp only; split <;> simp

/-! ## `sineTick` -/

@[simp] theorem sineTick_pstate (c : Params) (s : State) : (sineTick c s).pstate = s.pstate := by
  unfold sineTick; split <;> simp
@[simp] theorem sineTick_dutyRaw (c : Params) (s : State) : (sineTick c s).dutyRaw = s.dutyRaw := by
  unfold sineTick; split <;> simp
@[simp] theorem sineTick_rxPending (c : Params) (s : State) : (sineTick c s).rxPending = s.rxPending := by
  unfold sineTick; split <;> simp
@[simp] theorem sineTick_rxBuf (c : Params) (s : State) : (sineTick c s).rxBuf = s.rxBuf := by
  unfold sineTick; split <;> simp
@[simp] theorem sineTick_rxFerr (c : Params) (s : State) : (sineTick c s).rxFerr = s.rxFerr := by
  unfold sineTick; split <;> simp
@[simp] theorem sineTick_rxOerr (c : Params) (s : State) : (sineTick c s).rxOerr = s.rxOerr := by
  unfold sineTick; split <;> simp
@[simp] theorem sineTick_rxPerr (c : Params) (s : State) : (sineTick c s).rxPerr = s.rxPerr := by
  unfold sineTick; split <;> simp
@[simp] theorem sineTick_mode (c : Params) (s : State) : (sineTick c s).mode = s.mode := by
  unfold sineTick; split <;> simp
@[simp] theorem sineTick_dutyPercent (c : Params) (s : State) : (sineTick c s).dutyPercent = s.dutyPercent := by
  unfold sineTick; split <;> simp
@[simp] theorem sineTick_freqIndex (c : Params) (s : State) : (sineTick c s).freqIndex = s.freqIndex := by
  unfold sineTick; split <;> simp
@[simp] theorem sineTick_amp (c : Params) (s : State) : (sineTick c s).amp = s.amp := by
  unfold sineTick; split <;> simp
@[simp] theorem sineTick_wc (c : Params) (s : State) : (sineTick c s).wc = s.wc := by
  unfold sineTick; split <;> simp
@[simp] theorem sineTick_bridgeEnabled (c : Params) (s : State) : (sineTick c s).bridgeEnabled = s.bridgeEnabled := by
  unfold sineTick; split <;> simp
@[simp] theorem sineTick_appliedHalf (c : Params) (s : State) : (sineTick c s).appliedHalf = s.appliedHalf := by
  unfold sineTick; split <;> simp
@[simp] theorem sineTick_dutyApplied (c : Params) (s : State) : (sineTick c s).dutyApplied = s.dutyApplied := by
  unfold sineTick; split <;> simp
@[simp] theorem sineTick_squarePending (c : Params) (s : State) : (sineTick c s).squarePending = s.squarePending := by
  unfold sineTick; split <;> simp
@[simp] theorem sineTick_taEn (c : Params) (s : State) : (sineTick c s).taEn = s.taEn := by
  unfold sineTick; split <;> simp
@[simp] theorem sineTick_tbEn (c : Params) (s : State) : (sineTick c s).tbEn = s.tbEn := by
  unfold sineTick; split <;> simp
@[simp] theorem sineTick_tbPeriod (c : Params) (s : State) : (sineTick c s).tbPeriod = s.tbPeriod := by
  unfold sineTick; split <;> simp
@[simp] theorem sineTick_taPending (c : Params) (s : State) : (sineTick c s).taPending = s.taPending := by
  unfold sineTick; split <;> simp
@[simp] theorem sineTick_tbPending (c : Params) (s : State) : (sineTick c s).tbPending = s.tbPending := by
  unfold sineTick; split <;> simp
@[simp] theorem sineTick_gie (c : Params) (s : State) : (sineTick c s).gie = s.gie := by
  unfold sineTick; split <;> simp
@[simp] theorem sineTick_txLog (c : Params) (s : State) : (sineTick c s).txLog = s.txLog := by
  unfold sineTick; split <;> simp
@[simp] theorem sineTick_colorIndex (c : Params) (s : State) : (sineTick c s).colorIndex = s.colorIndex := by
  unfold sineTick; split <;> simp
@[simp] theorem sineTick_colorRefresh (c : Params) (s : State) : (sineTick c s).colorRefresh = s.colorRefresh := by
  unfold sineTick; split <;> simp
@[simp] theorem sineTick_ackLog (c : Params) (s : State) : (sineTick c s).ackLog = s.ackLog := by
  unfold sineTick; split <;> simp
@[simp] theorem sineTick_agenda (c : Params) (s : State) : (sineTick c s).agenda = s.agenda := by
  unfold sineTick; split <;> simp
@[simp] theorem sineTick_draws (c : Params) (s : State) : (sineTick c s).draws = s.draws := by
  unfold sineTick; split <;> simp

/-! ## `teardown` -/

@[simp] theorem teardown_pstate (c : Params) (s : State) : (teardown c s).pstate = s.pstate := by
  unfold teardown; dsimp only; split <;> simp
@[simp] theorem teardown_rxPending (c : Params) (s : State) : (teardown c s).rxPending = s.rxPending := by
  unfold teardown; dsimp only; split <;> simp
@[simp] theorem teardown_rxBuf (c : Params) (s : State) : (teardown c s).rxBuf = s.rxBuf := by
  unfold teardown; dsimp only; split <;> simp
@[simp] theorem teardown_rxFerr (c : Params) (s : State) : (teardown c s).rxFerr = s.rxFerr := by
  unfold teardown; dsimp only; split <;> simp
@[simp] theorem teardown_rxOerr (c : Params) (s : State) : (teardown c s).rxOerr = s.rxOerr := by
  unfold teardown; dsimp only; split <;> simp
@[simp] theorem teardown_rxPerr (c : Params) (s : State) : (teardown c s).rxPerr = s.rxPerr := by
  unfold teardown; dsimp only; split <;> simp
@[simp] theorem teardown_taReload (c : Params) (s : State) : (teardown c s).taReload = s.taReload := by
  unfold teardown; dsimp only; split <;> simp
@[simp] theorem teardown_tbPeriod (c : Params) (s : State) : (teardown c s).tbPeriod = s.tbPeriod := by
  unfold teardown; dsimp only; split <;> simp
@[simp] theorem teardown_gie (c : Params) (s : State) : (teardown c s).gie = s.gie := by
  unfold teardown; dsimp only; split <;> simp
@[simp] theorem teardown_txLog (c : Params) (s : State) : (teardown c s).txLog = s.txLog := by
  unfold teardown; dsimp only; split <;> simp
@[simp] theorem teardown_ackLog (c : Params) (s : State) : (teardown c s).ackLog = s.ackLog := by
  unfold teardown; dsimp only; split <;> simp
@[simp] theorem teardown_agenda (c : Params) (s : State) : (teardown c s).agenda = s.agenda := by
  unfold teardown; dsimp only; split <;> simp
@[simp] theorem teardown_draws (c : Params) (s : State) : (teardown c s).draws = s.draws := by
  unfold teardown; dsimp only; split <;> simp

/-! ## `enterWave` -/

@[simp] theorem enterWave_pstate (c : Params) (w : Bool) (s : State) : (enterWave c w s).pstate = s.pstate := by
  cases w <;> simp [enterWave]
@[simp] theorem enterWave_dutyRaw (c : Params) (w : Bool) (s : State) : (enterWave c w s).dutyRaw = s.dutyRaw := by
  cases w <;> simp [enterWave]
@[simp] theorem enterWave_rxPending (c : Params) (w : Bool) (s : State) : (enterWave c w s).rxPending = s.rxPending := by
  cases w <;> simp [enterWave]
@[simp] theorem enterWave_rxBuf (c : Params) (w : Bool) (s : State) : (enterWave c w s).rxBuf = s.rxBuf := by
  cases w <;> simp [enterWave]
@[simp] theorem enterWave_rxFerr (c : Params) (w : Bool) (s : State) : (enterWave c w s).rxFerr = s.rxFerr := by
  cases w <;> simp [enterWave]
@[simp] theorem enterWave_rxOerr (c : Params) (w : Bool) (s : State) : (enterWave c w s).rxOerr = s.rxOerr := by
  cases w <;> simp [enterWave]
@[simp] theorem enterWave_rxPerr (c : Params) (w : Bool) (s : State) : (enterWave c w s).rxPerr = s.rxPerr := by
  cases w <;> simp [enterWave]
@[simp] theorem enterWave_dutyPercent (c : Params) (w : Bool) (s : State) : (enterWave c w s).dutyPercent = s.dutyPercent := by
  cases w <;> simp [enterWave]
@[simp] theorem enterWave_freqIndex (c : Params) (w : Bool) (s : State) : (enterWave c w s).freqIndex = s.freqIndex := by
  cases w <;> simp [enterWave]
@[simp] theorem enterWave_taReload (c : Params) (w : Bool) (s : State) : (enterWave c w s).taReload = s.taReload := by
  cases w <;> simp [enterWave]
@[simp] theorem enterWave_tbPeriod (c : Params) (w : Bool) (s : State) : (enterWave c w s).tbPeriod = s.tbPeriod := by
  cases w <;> simp [enterWave]
@[simp] theorem enterWave_gie (c : Params) (w : Bool) (s : State) : (enterWave c w s).gie = s.gie := by
  cases w <;> simp [enterWave]
@[simp] theorem enterWave_txLog (c : Params) (w : Bool) (s : State) : (enterWave c w s).txLog = s.txLog := by
  cases w <;> simp [enterWave]
@[simp] theorem enterWave_colorIndex (c : Params) (w : Bool) (s : State) : (enterWave c w s).colorIndex = s.colorIndex := by
  cases w <;> simp [enterWave]
@[simp] theorem enterWave_colorRefresh (c : Params) (w : Bool) (s : State) : (enterWave c w s).colorRefresh = s.colorRefresh := by
  cases w <;> simp [enterWave]
@[simp] theorem enterWave_ackLog (c : Params) (w : Bool) (s : State) : (enterWave c w s).ackLog = s.ackLog := by
  cases w <;> simp [enterWave]
@[simp] theorem enterWave_agenda (c : Params) (w : Bool) (s : State) : (enterWave c w s).agenda = s.agenda := by
  cases w <;> simp [enterWave]
@[simp] theorem enterWave_draws (c : Params) (w : Bool) (s : State) : (enterWave c w s).draws = s.draws := by
  cases w <;> simp [enterWave]

/-! ## `configureSine` -/

@[simp] theorem configureSine_pstate (c : Params) (same : Bool) (s : State) : (configureSine c same s).pstate = s.pstate := by
  unfold configureSine; dsimp only; split <;> simp
@[simp] theorem configureSine_dutyRaw (c : Params) (same : Bool) (s : State) : (configureSine c same s).dutyRaw = s.dutyRaw := by
  unfold configureSine; dsimp only; split <;> simp
@[simp] theorem configureSine_rxPending (c : Params) (same : Bool) (s : State) : (configureSine c same s).rxPending = s.rxPending := by
  unfold configureSine; dsimp only; split <;> simp
@[simp] theorem configureSine_rxBuf (c : Params) (same : Bool) (s : State) : (configureSine c same s).rxBuf = s.rxBuf := by
  unfold configureSine; dsimp only; split <;> simp
@[simp] theorem configureSine_rxFerr (c : Params) (same : Bool) (s : State) : (configureSine c same s).rxFerr = s.rxFerr := by
  unfold configureSine; dsimp only; split <;> simp
@[simp] theorem configureSine_rxOerr (c : Params) (same : Bool) (s : State) : (configureSine c same s).rxOerr = s.rxOerr := by
  unfold configureSine; dsimp only; split <;> simp
@[simp] theorem configureSine_rxPerr (c : Params) (same : Bool) (s : State) : (configureSine c same s).rxPerr = s.rxPerr := by
  unfold configureSine; dsimp only; split <;> simp
@[simp] theorem configureSine_mode (c : Params) (same : Bool) (s : State) : (configureSine c same s).mode = s.mode := by
  unfold configureSine; dsimp only; split <;> simp
@[simp] theorem configureSine_dutyPercent (c : Params) (same : Bool) (s : State) : (configureSine c same s).dutyPercent = s.dutyPercent := by
  unfold configureSine; dsimp only; split <;> simp
@[simp] theorem configureSine_freqIndex (c : Params) (same : Bool) (s : State) : (configureSine c same s).freqIndex = s.freqIndex := by
  unfold configureSine; dsimp only; split <;> simp
@[simp] theorem configureSine_phase (c : Params) (same : Bool) (s : State) : (configureSine c same s).phase = s.phase := by
  unfold configureSine; dsimp only; split <;> simp
@[simp] theorem configureSine_lastSign (c : Params) (same : Bool) (s : State) : (configureSine c same s).lastSign = s.lastSign := by
  unfold configureSine; dsimp only; split <;> simp
@[simp] theorem configureSine_wc (c : Params) (same : Bool) (s : State) : (configureSine c same s).wc = s.wc := by
  unfold configureSine; dsimp only; split <;> simp
@[simp] theorem configureSine_bridgeEnabled (c : Params) (same : Bool) (s : State) : (configureSine c same s).bridgeEnabled = s.bridgeEnabled := by
  unfold configureSine; dsimp only; split <;> simp
@[simp] theorem configureSine_appliedHalf (c : Params) (same : Bool) (s : State) : (configureSine c same s).appliedHalf = s.appliedHalf := by
  unfold configureSine; dsimp only; split <;> simp
@[simp] theorem configureSine_dutyApplied (c : Params) (same : Bool) (s : State) : (configureSine c same s).dutyApplied = s.dutyApplied := by
  unfold configureSine; dsimp only; split <;> simp
@[simp] theorem configureSine_squarePending (c : Params) (same : Bool) (s : State) : (configureSine c same s).squarePending = s.squarePending := by
  unfold configureSine; dsimp only; split <;> simp
@[simp] theorem configureSine_tbEn (c : Params) (same : Bool) (s : State) : (configureSine c same s).tbEn = s.tbEn := by
  unfold configureSine; dsimp only; split <;> simp
@[simp] theorem configureSine_tbPeriod (c : Params) (same : Bool) (s : State) : (configureSine c same s).tbPeriod = s.tbPeriod := by
  unfold configureSine; dsimp only; split <;> simp
@[simp] theorem configureSine_taPending (c : Params) (same : Bool) (s : State) : (configureSine c same s).taPending = s.taPending := by
  unfold configureSine; dsimp only; split <;> simp
@[simp] theorem configureSine_tbPending (c : Params) (same : Bool) (s : State) : (configureSine c same s).tbPending = s.tbPending := by
  unfold configureSine; dsimp only; split <;> simp
@[simp] theorem configureSine_gie (c : Params) (same : Bool) (s : State) : (configureSine c same s).gie = s.gie := by
  unfold configureSine; dsimp only; split <;> simp
@[simp] theorem configureSine_txLog (c : Params) (same : Bool) (s : State) : (configureSine c same s).txLog = s.txLog := by
  unfold configureSine; dsimp only; split <;> simp
@[simp] theorem configureSine_colorIndex (c : Params) (same : Bool) (s : State) : (configureSine c same s).colorIndex = s.colorIndex := by
  unfold configureSine; dsimp only; split <;> simp
@[simp] theorem configureSine_colorRefresh (c : Params) (same : Bool) (s : State) : (configureSine c same s).colorRefresh = s.colorRefresh := by
  unfold configureSine; dsimp only; split <;> simp
@[simp] theorem configureSine_ackLog (c : Params) (same : Bool) (s : State) : (configureSine c same s).ackLog = s.ackLog := by
  unfold configureSine; dsimp only; split <;> simp
@[simp] theorem configureSine_agenda (c : Params) (same : Bool) (s : State) : (configureSine c same s).agenda = s.agenda := by
  unfold configureSine; dsimp only; split <;> simp
@[simp] theorem configureSine_draws (c : Params) (same : Bool) (s : State) : (configureSine c same s).draws = s.draws := by
  unfold configureSine; dsimp only; split <;> simp

/-! ## `configureSquare` -/

@[simp] theorem configureSquare_pstate (c : Params) (same : Bool) (s : State) : (configureSquare c same s).pstate = s.pstate := by
  unfold configureSquare; dsimp only; split <;> simp
@[simp] theorem configureSquare_dutyRaw (c : Params) (same : Bool) (s : State) : (configureSquare c same s).dutyRaw = s.dutyRaw := by
  unfold configureSquare; dsimp only; split <;> simp
@[simp] theorem configureSquare_rxPending (c : Params) (same : Bool) (s : State) : (configureSquare c same s).rxPending = s.rxPending := by
  unfold configureSquare; dsimp only; split <;> simp
@[simp] theorem configureSquare_rxBuf (c : Params) (same : Bool) (s : State) : (configureSquare c same s).rxBuf = s.rxBuf := by
  unfold configureSquare; dsimp only; split <;> simp
@[simp] theorem configureSquare_rxFerr (c : Params) (same : Bool) (s : State) : (configureSquare c same s).rxFerr = s.rxFerr := by
  unfold configureSquare; dsimp only; split <;> simp
@[simp] theorem configureSquare_rxOerr (c : Params) (same : Bool) (s : State) : (configureSquare c same s).rxOerr = s.rxOerr := by
  unfold configureSquare; dsimp only; split <;> simp
@[simp] theorem configureSquare_rxPerr (c : Params) (same : Bool) (s : State) : (configureSquare c same s).rxPerr = s.rxPerr := by
  unfold configureSquare; dsimp only; split <;> simp
@[simp] theorem configureSquare_mode (c : Params) (same : Bool) (s : State) : (configureSquare c same s).mode = s.mode := by
  unfold configureSquare; dsimp only; split <;> simp
@[simp] theorem configureSquare_dutyPercent (c : Params) (same : Bool) (s : State) : (configureSquare c same s).dutyPercent = s.dutyPercent := by
  unfold configureSquare; dsimp only; split <;> simp
@[simp] theorem configureSquare_freqIndex (c : Params) (same : Bool) (s : State) : (configureSquare c same s).freqIndex = s.freqIndex := by
  unfold configureSquare; dsimp only; split <;> simp
@[simp] theorem configureSquare_amp (c : Params) (same : Bool) (s : State) : (configureSquare c same s).amp = s.amp := by
  unfold configureSquare; dsimp only; split <;> simp
@[simp] theorem configureSquare_phase (c : Params) (same : Bool) (s : State) : (configureSquare c same s).phase = s.phase := by
  unfold configureSquare; dsimp only; split <;> simp
@[simp] theorem configureSquare_lastSign (c : Params) (same : Bool) (s : State) : (configureSquare c same s).lastSign = s.lastSign := by
  unfold configureSquare; dsimp only; split <;> simp
@[simp] theorem configureSquare_wc (c : Params) (same : Bool) (s : State) : (configureSquare c same s).wc = s.wc := by
  unfold configureSquare; dsimp only; split <;> simp
@[simp] theorem configureSquare_appliedHalf (c : Params) (same : Bool) (s : State) : (configureSquare c same s).appliedHalf = s.appliedHalf := by
  unfold configureSquare; dsimp only; split <;> simp
@[simp] theorem configureSquare_dutyApplied (c : Params) (same : Bool) (s : State) : (configureSquare c same s).dutyApplied = s.dutyApplied := by
  unfold configureSquare; dsimp only; split <;> simp
@[simp] theorem configureSquare_taEn (c : Params) (same : Bool) (s : State) : (configureSquare c same s).taEn = s.taEn := by
  unfold configureSquare; dsimp only; split <;> simp
@[simp] theorem configureSquare_taReload (c : Params) (same : Bool) (s : State) : (configureSquare c same s).taReload = s.taReload := by
  unfold configureSquare; dsimp only; split <;> simp
@[simp] theorem configureSquare_taPending (c : Params) (same : Bool) (s : State) : (configureSquare c same s).taPending = s.taPending := by
  unfold configureSquare; dsimp only; split <;> simp
@[simp] theorem configureSquare_tbPending (c : Params) (same : Bool) (s : State) : (configureSquare c same s).tbPending = s.tbPending := by
  unfold configureSquare; dsimp only; split <;> simp
@[simp] theorem configureSquare_gie (c : Params) (same : Bool) (s : State) : (configureSquare c same s).gie = s.gie := by
  unfold configureSquare; dsimp only; split <;> simp
@[simp] theorem configureSquare_txLog (c : Params) (same : Bool) (s : State) : (configureSquare c same s).txLog = s.txLog := by
  unfold configureSquare; dsimp only; split <;> simp
@[simp] theorem configureSquare_colorIndex (c : Params) (same : Bool) (s : State) : (configureSquare c same s).colorIndex = s.colorIndex := by
  unfold configureSquare; dsimp only; split <;> simp
@[simp] theorem configureSquare_colorRefresh (c : Params) (same : Bool) (s : State) : (configureSquare c same s).colorRefresh = s.colorRefresh := by
  unfold configureSquare; dsimp only; split <;> simp
@[simp] theorem configureSquare_ackLog (c : Params) (same : Bool) (s : State) : (configureSquare c same s).ackLog = s.ackLog := by
  unfold configureSquare; dsimp only; split <;> simp
@[simp] theorem configureSquare_agenda (c : Params) (same : Bool) (s : State) : (configureSquare c same s).agenda = s.agenda := by
  unfold configureSquare; dsimp only; split <;> simp
@[simp] theorem configureSquare_draws (c : Params) (same : Bool) (s : State) : (configureSquare c same s).draws = s.draws := by
  unfold configureSquare; dsimp only; split <;> simp

/-! ## `complete` -/

@[simp] theorem complete_pstate (c : Params) (w : Bool) (f : BitVec 3) (s : State) : (complete c w f s).pstate = s.pstate := by
  unfold complete; cases w <;> simp <;> split <;> simp
@[simp] theorem complete_dutyRaw (c : Params) (w : Bool) (f : BitVec 3) (s : State) : (complete c w f s).dutyRaw = s.dutyRaw := by
  unfold complete; cases w <;> simp <;> split <;> simp
@[simp] theorem complete_rxPending (c : Params) (w : Bool) (f : BitVec 3) (s : State) : (complete c w f s).rxPending = s.rxPending := by
  unfold complete; cases w <;> simp <;> split <;> simp
@[simp] theorem complete_rxBuf (c : Params) (w : Bool) (f : BitVec 3) (s : State) : (complete c w f s).rxBuf = s.rxBuf := by
  unfold complete; cases w <;> simp <;> split <;> simp
@[simp] theorem complete_rxFerr (c : Params) (w : Bool) (f : BitVec 3) (s : State) : (complete c w f s).rxFerr = s.rxFerr := by
  unfold complete; cases w <;> simp <;> split <;> simp
@[simp] theorem complete_rxOerr (c : Params) (w : Bool) (f : BitVec 3) (s : State) : (complete c w f s).rxOerr = s.rxOerr := by
  unfold complete; cases w <;> simp <;> split <;> simp
@[simp] theorem complete_rxPerr (c : Params) (w : Bool) (f : BitVec 3) (s : State) : (complete c w f s).rxPerr = s.rxPerr := by
  unfold complete; cases w <;> simp <;> split <;> simp
@[simp] theorem complete_gie (c : Params) (w : Bool) (f : BitVec 3) (s : State) : (complete c w f s).gie = s.gie := by
  unfold complete; cases w <;> simp <;> split <;> simp
@[simp] theorem complete_txLog (c : Params) (w : Bool) (f : BitVec 3) (s : State) : (complete c w f s).txLog = s.txLog := by
  unfold complete; cases w <;> simp <;> split <;> simp
@[simp] theorem complete_ackLog (c : Params) (w : Bool) (f : BitVec 3) (s : State) : (complete c w f s).ackLog = s.ackLog := by
  unfold complete; cases w <;> simp <;> split <;> simp
@[simp] theorem complete_agenda (c : Params) (w : Bool) (f : BitVec 3) (s : State) : (complete c w f s).agenda = s.agenda := by
  unfold complete; cases w <;> simp <;> split <;> simp
@[simp] theorem complete_draws (c : Params) (w : Bool) (f : BitVec 3) (s : State) : (complete c w f s).draws = s.draws := by
  unfold complete; cases w <;> simp <;> split <;> simp

end Sys2Proof.Machine
end

