-- ==== Sys2Proof/Laws/Ops.lean ====
section
/-! SUPPORT. What each shared operation and each meaning answers, said once: equations by case, to be cited instead of
unfolding. -/

namespace Sys2Proof.Machine

open Sys2Proof.Config

/-! ## Commands -/

@[simp] theorem exec_addrFwd (a : BitVec 6) (st : Bool) (s : State) :
    exec (.addrFwd a st) s = .next { txEmit (addressByte (a - 1) st) s with pstate := .idle } := rfl
@[simp] theorem exec_stop (s : State) : exec .stop s = .next { teardown node s with pstate := .idle } := rfl
@[simp] theorem exec_start (s : State) : exec .start s = .next { s with pstate := .waitData1 } := rfl
@[simp] theorem exec_dataPass (b : Byte) (s : State) : exec (.dataPass b) s = .next (txEmit b s) := rfl
@[simp] theorem exec_data1 (r : BitVec 2) (d : BitVec 5) (s : State) :
    exec (.data1 r d) s = .next { s with dutyRaw := d, pstate := .waitData2 } := rfl
@[simp] theorem exec_data2 (r : BitVec 3) (w : Bool) (f : BitVec 3) (s : State) :
    exec (.data2 r w f) s = .next { complete node w f s with pstate := .idle } := rfl

/-! ## The waveform selector -/

@[simp] theorem teardown_taEn (c : Params) (s : State) : (teardown c s).taEn = false := by
  unfold teardown; dsimp only; split <;> simp
@[simp] theorem teardown_tbEn (c : Params) (s : State) : (teardown c s).tbEn = false := by
  unfold teardown; dsimp only; split <;> simp
@[simp] theorem teardown_taPending (c : Params) (s : State) : (teardown c s).taPending = false := by
  unfold teardown; dsimp only; split <;> simp
@[simp] theorem teardown_tbPending (c : Params) (s : State) : (teardown c s).tbPending = false := by
  unfold teardown; dsimp only; split <;> simp
@[simp] theorem teardown_squarePending (c : Params) (s : State) : (teardown c s).squarePending = false := by
  unfold teardown; dsimp only; split <;> simp
@[simp] theorem teardown_bridgeEnabled (c : Params) (s : State) : (teardown c s).bridgeEnabled = false := by
  unfold teardown; dsimp only; split <;> simp
@[simp] theorem teardown_dutyApplied (c : Params) (s : State) : (teardown c s).dutyApplied = false := by
  unfold teardown; dsimp only; split <;> simp
@[simp] theorem teardown_mode (c : Params) (s : State) : (teardown c s).mode = .idle := by
  unfold teardown; dsimp only; split <;> simp
@[simp] theorem teardown_dutyPercent (c : Params) (s : State) : (teardown c s).dutyPercent = 0 := by
  unfold teardown; dsimp only; split <;> simp
@[simp] theorem teardown_freqIndex (c : Params) (s : State) : (teardown c s).freqIndex = 0 := by
  unfold teardown; dsimp only; split <;> simp
@[simp] theorem teardown_dutyRaw (c : Params) (s : State) : (teardown c s).dutyRaw = 0 := by
  unfold teardown; dsimp only; split <;> simp
@[simp] theorem teardown_phase (c : Params) (s : State) : (teardown c s).phase = 0 := by
  unfold teardown; dsimp only; split <;> simp
@[simp] theorem teardown_lastSign (c : Params) (s : State) : (teardown c s).lastSign = .zero := by
  unfold teardown; dsimp only; split <;> simp
@[simp] theorem teardown_wc (c : Params) (s : State) : (teardown c s).wc = 0 := by
  unfold teardown; dsimp only; split <;> simp
@[simp] theorem teardown_amp (c : Params) (s : State) : (teardown c s).amp = 0 := by
  unfold teardown; dsimp only; split <;> simp
@[simp] theorem teardown_appliedHalf (c : Params) (s : State) : (teardown c s).appliedHalf = .first := by
  unfold teardown; dsimp only; split <;> simp
@[simp] theorem teardown_bridge (c : Params) (s : State) : (teardown c s).bridge = .neutral := by
  unfold teardown; dsimp only; split <;> simp
@[simp] theorem teardown_pwmWidth (c : Params) (s : State) : (teardown c s).pwmWidth = 0 := by
  unfold teardown; dsimp only; split <;> simp
@[simp] theorem teardown_bridgeLog (c : Params) (s : State) : (teardown c s).bridgeLog = s.bridgeLog ++ [.neutral] := by
  unfold teardown; dsimp only; split <;> simp
@[simp] theorem teardown_colorIndex (c : Params) (s : State) :
    (teardown c s).colorIndex = if c.stopRefreshesColor then 0 else s.colorIndex := by
  unfold teardown; dsimp only; split <;> simp
@[simp] theorem teardown_colorRefresh (c : Params) (s : State) :
    (teardown c s).colorRefresh = if c.stopRefreshesColor then true else s.colorRefresh := by
  unfold teardown; dsimp only; split <;> simp

/-- `Complete` with wave 1 in Sine mode: nothing restarts. -/
theorem complete_sine_same (c : Params) (f : BitVec 3) {s : State} (h : s.mode = .sine) :
    complete c true f s = configureSine c true (recordFrame c f s) := by
  simp [complete, waveMode, h]

/-- `Complete` with wave 1 in another mode: the old mode is left first. -/
theorem complete_sine_new (c : Params) (f : BitVec 3) {s : State} (h : s.mode ≠ .sine) :
    complete c true f s = configureSine c false (recordFrame c f (enterWave c true s)) := by
  simp [complete, waveMode, h]

/-- `Complete` with wave 0 in Square mode: nothing restarts. -/
theorem complete_square_same (c : Params) (f : BitVec 3) {s : State} (h : s.mode = .square) :
    complete c false f s = configureSquare c true (recordFrame c f s) := by
  simp [complete, waveMode, h]

/-- `Complete` with wave 0 in another mode: the old mode is left first. -/
theorem complete_square_new (c : Params) (f : BitVec 3) {s : State} (h : s.mode ≠ .square) :
    complete c false f s = configureSquare c false (recordFrame c f (enterWave c false s)) := by
  simp [complete, waveMode, h]

theorem enterWave_sine (c : Params) (s : State) :
    enterWave c true s = { modeExit c s with mode := .sine, phase := 0, lastSign := .zero } := rfl

theorem enterWave_square (c : Params) (s : State) :
    enterWave c false s = { modeExit c s with mode := .square, wc := 0 } := rfl

/-- Sine configuration after a mode change issues nothing. -/
theorem configureSine_new (c : Params) (s : State) :
    configureSine c false s =
      { s with amp := amplitude c s.dutyPercent, taEn := true, taReload := sineReloadAt c s.freqIndex } := by
  simp [configureSine]

/-- Sine configuration to a nonzero amplitude issues nothing. -/
theorem configureSine_loud (c : Params) (same : Bool) {s : State} (h : amplitude c s.dutyPercent ≠ 0) :
    configureSine c same s =
      { s with amp := amplitude c s.dutyPercent, taEn := true, taReload := sineReloadAt c s.freqIndex } := by
  simp [configureSine, h]

/-- Sine configuration to amplitude 0 while in Sine coasts at once. -/
theorem configureSine_silent (c : Params) {s : State} (h : amplitude c s.dutyPercent = 0) :
    configureSine c true s =
      setPwm c 0 (coast { s with amp := 0, taEn := true, taReload := sineReloadAt c s.freqIndex }) := by
  simp [configureSine, h]

/-- Square configuration issues nothing unless the duty is 0 while the bridge is enabled in Square. -/
theorem configureSquare_quiet (c : Params) {same : Bool} {s : State}
    (h : ¬(same = true ∧ s.dutyPercent = 0 ∧ s.bridgeEnabled = true)) :
    configureSquare c same s =
      { s with tbEn := true, tbPeriod := squarePeriodAt c s.freqIndex, squarePending := true } := by
  simp only [configureSquare, if_neg h]

/-- Square configuration to duty 0 while the bridge is enabled in Square coasts at once. -/
theorem configureSquare_coast (c : Params) {s : State} (hd : s.dutyPercent = 0) (hb : s.bridgeEnabled = true) :
    configureSquare c true s =
      { setPwm c c.sqOffWidth
          (coast { s with tbEn := true, tbPeriod := squarePeriodAt c s.freqIndex, squarePending := true }) with
        bridgeEnabled := false } := by
  simp [configureSquare, hd, hb]

/-! ## The square drive -/

theorem squareTick_square {s : State} (h : s.mode = .square) :
    squareTick s = { s with wc := (s.wc + 1) % winLen, squarePending := true } := by
  simp [squareTick, h]

theorem squareTick_other {s : State} (h : s.mode ≠ .square) : squareTick s = s := by
  simp [squareTick, h]

theorem squareProcess_other (c : Params) {s : State} (h : s.mode ≠ .square) :
    squareProcess c s = { s with squarePending := false } := by
  simp [squareProcess, h]

theorem alreadyApplied_iff (on : Bool) (h : Half) (s : State) :
    alreadyApplied on h s = true ↔ s.dutyApplied = true ∧ s.bridgeEnabled = on ∧ s.appliedHalf = h := by
  simp [alreadyApplied, and_assoc, eq_comm (a := on), eq_comm (a := h)]

/-- Nothing is issued where the state of the current tick is applied already. -/
theorem squareProcess_applied (c : Params) {s : State} (h : s.mode = .square)
    (ha : alreadyApplied (windowOn s.wc s.dutyPercent) (halfOf s.wc) s = true) :
    squareProcess c s = { s with squarePending := false } :=
  (if_neg (not_not_intro h)).trans (if_pos ha)

/-- Otherwise the state of the current tick is applied. -/
theorem squareProcess_apply (c : Params) {s : State} (h : s.mode = .square)
    (ha : alreadyApplied (windowOn s.wc s.dutyPercent) (halfOf s.wc) s = false) :
    squareProcess c s =
      applyWindow c (windowOn s.wc s.dutyPercent) (halfOf s.wc) { s with squarePending := false } :=
  (if_neg (not_not_intro h)).trans (if_neg (Bool.eq_false_iff.mp ha))

theorem applyWindow_on (c : Params) (h : Half) (s : State) :
    applyWindow c true h s =
      { setPwm c c.sqOnWidth (route (halfPolarity h) s) with
        bridgeEnabled := true, appliedHalf := h, dutyApplied := true } := rfl

theorem applyWindow_off (c : Params) (h : Half) (s : State) :
    applyWindow c false h s =
      { setPwm c c.sqOffWidth (coast s) with bridgeEnabled := false, appliedHalf := h, dutyApplied := true } := rfl

/-! ## The sine drive -/

theorem sineTick_sine (c : Params) {s : State} (h : s.mode = .sine) :
    sineTick c s = driveSample c (sampleAt c (s.phase + 1)) (advancePhase c s) := by
  simp [sineTick, h]

theorem sineTick_other (c : Params) {s : State} (h : s.mode ≠ .sine) : sineTick c s = s := by
  simp [sineTick, h]

theorem driveSample_silent (c : Params) (x : Int) {s : State} (h : s.amp = 0) :
    driveSample c x s = { setPwm c 0 (coast s) with lastSign := zeroCross x s.lastSign } := by
  simp [driveSample, h]

/-- The sign does not change: the width alone is written. -/
theorem driveSample_hold (c : Params) (x : Int) {s : State} (h : s.amp ≠ 0)
    (hs : zeroCross x s.lastSign = s.lastSign) :
    driveSample c x s = setPwm c (forwardDuty c s.amp x) s := by
  simp [driveSample, routeOnCrossing, h, hs]

/-- The sign changes: the bridge is routed to the new sign's polarity. -/
theorem driveSample_cross (c : Params) (x : Int) {s : State} (h : s.amp ≠ 0)
    (hs : zeroCross x s.lastSign ≠ s.lastSign) :
    driveSample c x s =
      setPwm c (forwardDuty c s.amp x)
        { route (signPolarity (zeroCross x s.lastSign)) s with lastSign := zeroCross x s.lastSign } := by
  simp [driveSample, routeOnCrossing, h, hs]

/-- A sign that changes is not 0. -/
theorem zeroCross_ne_zero {x : Int} {last : Sign} (h : zeroCross x last ≠ last) : zeroCross x last ≠ .zero := by
  unfold zeroCross at *
  split <;> split at h <;> simp_all

/-! ## The bridge log -/

/-- Appending to a log asks for break-before-make of the appended part only, after the log's last entry. -/
theorem breakBeforeMake_append (prev : Option Bridge) (log more : List Bridge) :
    breakBeforeMake prev (log ++ more) =
      (breakBeforeMake prev log && breakBeforeMake (log.getLast?.or prev) more) := by
  induction log generalizing prev with
  | nil => cases prev <;> rfl
  | cons v log ih =>
    cases log with
    | nil => simp [breakBeforeMake]
    | cons w log =>
      change (_ && breakBeforeMake (some v) ((w :: log) ++ more)) = ((_ && breakBeforeMake (some v) (w :: log)) && _)
      rw [ih, Bool.and_assoc]
      simp [List.getLast?_cons]

/-! ## The drive across the actuator (41_output_stage.md R140, R147, R148) -/

/-- Between steps the drive depends on the bridge and the width alone (R147). -/
theorem differentialDrive_congr {s t : State} (hb : t.bridge = s.bridge) (hw : t.pwmWidth = s.pwmWidth) :
    differentialDrive t = differentialDrive s := by
  simp only [differentialDrive, hb, hw]

/-- The magnitude of the drive is the width, unless the block is silent. -/
theorem natAbs_differentialDrive (s : State) :
    (differentialDrive s).natAbs = if s.bridge = .neutral then 0 else s.pwmWidth := by
  unfold differentialDrive
  cases s.bridge <;> simp [driveDirection]

/-- `Pos` and `Neg` drive in opposite directions. -/
theorem driveDirection_neg : driveDirection .neg = -driveDirection .pos := rfl

@[simp] theorem silent_iff (s : State) : silent s = true ↔ s.bridge = .neutral := by simp [silent]

/-- A silent block has no differential drive, whatever the width is (R148). -/
theorem differentialDrive_of_silent {s : State} (h : silent s = true) : differentialDrive s = 0 := by
  simp [differentialDrive, driveDirection, (silent_iff s).1 h]

@[simp] theorem differentialDrive_coast (s : State) : differentialDrive (coast s) = 0 :=
  differentialDrive_of_silent (by simp)

@[simp] theorem differentialDrive_teardown (c : Params) (s : State) : differentialDrive (teardown c s) = 0 :=
  differentialDrive_of_silent (by simp)

end Sys2Proof.Machine
end

