-- ==== Sys2Proof/Laws/PerInstr.lean ====
section
/-! SUPPORT. The marker bit of every command's byte (30_encoding.md R80, R81 to R83), one lemma per command. -/

namespace Sys2Proof.Laws.MarkerBit

/-- The byte of a well-formed command has bit 7 set if and only if the command is one of the three data commands. -/
def Statement (i : Instr) : Prop :=
  i.wellFormed = true →
    markerOf (encodeByte i) =
      match i with
      | .addrFwd _ _ => false
      | .stop => false
      | .start => false
      | .dataPass _ => true
      | .data1 _ _ => true
      | .data2 _ _ _ => true

theorem addrFwd (addr : BitVec 6) (start : Bool) : Statement (.addrFwd addr start) :=
  fun _ => markerOf_addressByte addr start

theorem stop : Statement .stop := fun _ => markerOf_addressByte 0 false

theorem start : Statement .start := fun _ => markerOf_addressByte 0 true

theorem dataPass (byte : Byte) : Statement (.dataPass byte) := fun h => h

theorem data1 (reserved : BitVec 2) (duty : BitVec 5) : Statement (.data1 reserved duty) :=
  fun _ => markerOf_data1Byte reserved duty

theorem data2 (reserved : BitVec 3) (wave : Bool) (freq : BitVec 3) : Statement (.data2 reserved wave freq) :=
  fun _ => markerOf_data2Byte reserved wave freq

end Sys2Proof.Laws.MarkerBit
end

