-- ==== Sys2Proof/Laws/Step.lean ====
section
/-! SUPPORT. Everything a step can do, said once: the inversion of `step` and the invariant rule built on it. -/

namespace Sys2Proof.Machine

open Sys2Proof.Config

theorem rxVerdict_cases (s : State) :
    rxHandler s = .next (clearRx s) ∨
      (rxVerdict node.parityEnabled s = .accepted ∧ rxHandler s = exec (decodeByte s.pstate s.rxBuf) (clearRx s)) := by
  unfold rxHandler
  cases h : rxVerdict node.parityEnabled s <;> simp [parse]

/-- Everything a step can do from `s`, with `u` the state whose agenda has moved on. -/
theorem step_cases {s t : State} (h : step s = .next t) :
    let u := takeAction s
    (t = u) ∨
    (nextAction s = .service .rx ∧ s.gie = true ∧ s.rxPending = true ∧ t = clearRx u) ∨
    (nextAction s = .service .rx ∧ s.gie = true ∧ s.rxPending = true ∧
      exec (decodeByte u.pstate u.rxBuf) (clearRx u) = .next t) ∨
    (nextAction s = .service .timerA ∧ s.gie = true ∧ s.taPending = true ∧
      t = sineTick node { u with taPending := false }) ∨
    (nextAction s = .service .timerB ∧ s.gie = true ∧ s.tbPending = true ∧
      t = squareTick { u with tbPending := false }) ∨
    (nextAction s = .process ∧ s.squarePending = true ∧ t = squareProcess node u) ∨
    (∃ b fe pe, nextAction s = .rxArrive b fe pe ∧ t = rxArrive b fe pe u) ∨
    (nextAction s = .expireA ∧ s.taEn = true ∧ t = { u with taPending := true }) ∨
    (nextAction s = .expireB ∧ s.tbEn = true ∧ t = { u with tbPending := true }) ∨
    (∃ v, nextAction s = .hostSetGie v ∧ t = hostSetGie v u) ∨
    (nextAction s = .hostAckColor ∧ t = hostAckColor u) := by
  intro u
  unfold step at h
  cases ha : nextAction s with
  | service src =>
    rw [ha] at h
    simp only [perform] at h
    split at h
    next hs =>
      simp only [serviceable, Bool.and_eq_true, takeAction_gie] at hs
      cases src with
      | rx =>
        have hp : s.rxPending = true := by simpa [requested] using hs.2
        have h' : rxHandler u = .next t := h
        rcases rxVerdict_cases u with hr | ⟨-, hr⟩ <;> rw [hr] at h'
        · injection h' with h'; subst h'
          simp [hs.1, hp]
        · simp [hs.1, hp, h']
      | timerA =>
        have hp : s.taPending = true := by simpa [requested] using hs.2
        injection h with h; subst h
        simp [hs.1, hp, enterHandler, u]
      | timerB =>
        have hp : s.tbPending = true := by simpa [requested] using hs.2
        injection h with h; subst h
        simp [hs.1, hp, enterHandler, u]
    next => injection h with h; subst h; simp [u]
  | process =>
    rw [ha] at h
    simp only [perform, takeAction_squarePending] at h
    injection h with h; subst h
    cases hp : s.squarePending <;> simp [u]
  | rxArrive b fe pe =>
    rw [ha] at h; injection h with h; subst h
    exact .inr (.inr (.inr (.inr (.inr (.inr (.inl ⟨b, fe, pe, rfl, rfl⟩))))))
  | expireA =>
    rw [ha] at h; injection h with h; subst h
    cases hp : s.taEn <;> simp [expireA, hp, u]
  | expireB =>
    rw [ha] at h; injection h with h; subst h
    cases hp : s.tbEn <;> simp [expireB, hp, u]
  | hostSetGie v =>
    rw [ha] at h; injection h with h; subst h
    simp [u]
  | hostAckColor =>
    rw [ha] at h; injection h with h; subst h
    simp [u]

/-- A property is kept by every step if the agenda's move, each command and each agent's operation keep it. -/
theorem step_keeps {P : State → Prop}
    (take : ∀ s, P s → P (takeAction s))
    (clear : ∀ s, P s → P (clearRx s))
    (command : ∀ i s t, P s → exec i s = .next t → P t)
    (sine : ∀ s, s.taPending = true → P s → P (sineTick node { s with taPending := false }))
    (square : ∀ s, s.tbPending = true → P s → P (squareTick { s with tbPending := false }))
    (process : ∀ s, s.squarePending = true → P s → P (squareProcess node s))
    (arrive : ∀ b fe pe s, P s → P (rxArrive b fe pe s))
    (expA : ∀ s, s.taEn = true → P s → P { s with taPending := true })
    (expB : ∀ s, s.tbEn = true → P s → P { s with tbPending := true })
    (setGie : ∀ v s, P s → P (hostSetGie v s))
    (ack : ∀ s, P s → P (hostAckColor s))
    {s t : State} (hs : P s) (h : step s = .next t) : P t := by
  have hu := take s hs
  rcases step_cases h with rfl | ⟨-, -, -, rfl⟩ | ⟨-, -, -, he⟩ | ⟨-, -, hp, rfl⟩ | ⟨-, -, hp, rfl⟩ | ⟨-, hp, rfl⟩ |
    ⟨b, fe, pe, -, rfl⟩ | ⟨-, hp, rfl⟩ | ⟨-, hp, rfl⟩ | ⟨v, -, rfl⟩ | ⟨-, rfl⟩
  · exact hu
  · exact clear _ hu
  · exact command _ _ _ (clear _ hu) he
  · exact sine _ (by simpa using hp) hu
  · exact square _ (by simpa using hp) hu
  · exact process _ (by simpa using hp) hu
  · exact arrive _ _ _ _ hu
  · exact expA _ (by simpa using hp) hu
  · exact expB _ (by simpa using hp) hu
  · exact setGie _ _ hu
  · exact ack _ hu

end Sys2Proof.Machine
end

