-- ==== Sys2Proof/Machine/Reference.lean ====
section
/-! DEFINITION. The reference configuration `REF` of the spec's vectors (00_scope.md R9). No rule, and no other definition
of the model, depends on it. -/

namespace Sys2Proof.Machine

open Sys2Proof.Config

/-- `SINE_TABLE` of `REF` (00_scope.md R9). -/
def referenceSamples : List Int := [0, 3, 4, 3, 0, -3, -4, -3]

/-- `REF` (00_scope.md R9). DESIGN CHOICE (log 20): R9 gives no `SQUARE_PERIOD` and no `SINE_RELOAD`, and the vectors keep
them symbolic, so these two are the node's free values, of which nothing is known. -/
def reference : Params where
  cal r := rnd (100 * r.val) 31
  pwmTop := 255
  pwmActiveLow := true
  sqOnWidth := 254
  sqOffWidth := 1
  sineLen := 8
  sineTable i := referenceSamples.getD i.val 0
  tablePeak := 4
  squarePeriod := node.squarePeriod
  sineReload := node.sineReload
  parityEnabled := false
  stopRefreshesColor := true
  cal_zero := by decide
  cal_one := by decide
  cal_mono := by decide
  cal_le := by decide
  pwmTop_pos := by decide
  sqOff_lt_on := by decide
  sqOn_le_top := by decide
  sineLen_pos := by decide
  tablePeak_pos := by decide

end Sys2Proof.Machine
end

