-- ==== Sys2Proof/Tests/Slice0.lean ====
section
/-! SUPPORT. Tests. Expected values are those of 95_test_vectors.md (named at each test) or written out by hand from the
encoding. The second half shows, for each obligation with hypotheses, values that meet them together. -/

namespace Sys2Proof.Tests

open Sys2Proof Sys2Proof.Machine

/-! ## The reference configuration of the vectors (00_scope.md R9) -/

/-- `REF`. -/
abbrev ref : Config.Params := reference

/-- The same with `PWM_ACTIVE_LOW` false. -/
def refActiveHigh : Config.Params := { ref with pwmActiveLow := false }

/-! ## Small states -/

/-- `S0'` of 95_test_vectors.md section 0. -/
def ready : State := { State.reset with gie := true }

/-- Ready, in a given parser state. -/
def readyIn (p : PState) : State := { ready with pstate := p }

/-- `s` with `a` next on the agenda. -/
def next (a : Action) (s : State) : State := { s with agenda := [a] }

/-- A byte held by the receiver and about to be served. -/
def holding (b : Byte) (s : State) : State := next (.service .rx) { s with rxBuf := b, rxPending := true }

/-- Sine under `REF` after SINE 0, 15, 3. -/
def sine : State :=
  { ready with mode := .sine, dutyRaw := 15, dutyPercent := 48, freqIndex := 3, amp := 122, taEn := true }

/-- Square under `REF` after SQUARE 0, d, 0 with a window applied at count `wc`. -/
def square (dp wc : Nat) : State :=
  { ready with
    mode := .square, dutyPercent := dp, wc := wc, tbEn := true, dutyApplied := true,
    bridgeEnabled := windowOn wc dp, appliedHalf := halfOf wc,
    bridge := if windowOn wc dp then halfPolarity (halfOf wc) else .neutral }

/-! ## WellFormed: an ill-formed term for each check, refused -/

theorem test_illFormed_addrFwd_zero : (Instr.addrFwd 0 true).wellFormed = false := by decide
theorem test_illFormed_dataPass_marker : (Instr.dataPass 0b01111111).wellFormed = false := by decide
theorem test_illFormed_readIn :
    (Instr.dataPass 0x80).readIn .waitData1 = false ∧ (Instr.data1 0 0).readIn .waitData2 = false ∧
      (Instr.data2 0 false 0).readIn .idle = false := by decide

/-! ## Decoding: words written out from 30_encoding.md R81 to R83 -/

theorem test_decode_addrFwd : ∀ p, decodeByte p 0b0_111111_1 = .addrFwd 63 true := by
  intro p; cases p <;> decide
theorem test_decode_addrFwd_32 : ∀ p, decodeByte p 0b0_100000_0 = .addrFwd 32 false := by
  intro p; cases p <;> decide
theorem test_decode_stop : ∀ p, decodeByte p 0b0_000000_0 = .stop := by
  intro p; cases p <;> decide
theorem test_decode_start : ∀ p, decodeByte p 0b0_000000_1 = .start := by
  intro p; cases p <;> decide
theorem test_decode_dataPass : decodeByte .idle 0b11100101 = .dataPass 0xE5 := by decide
theorem test_decode_data1 : decodeByte .waitData1 0b1_11_00101 = .data1 3 5 := by decide
theorem test_decode_data2 : decodeByte .waitData2 0b1_111_1_000 = .data2 7 true 0 := by decide
theorem test_decode_empty : ∀ p, decode p [] = .error .noByte := fun _ => rfl

/-- V-ENC-3. -/
theorem test_encode_streams :
    sineFrame 0 15 3 = [0x01, 0x8F, 0x8B] ∧ squareFrame 2 1 0 = [0x05, 0x81, 0x80] ∧ stopAt 4 = [0x08] ∧
      frameBytes 63 0 true 0 = [0x7F, 0x80, 0x88] := by decide

/-- The table's numbering, read in IDLE. -/
theorem test_tableWord :
    decodeTableWord 8 0x00 = some .stop ∧ decodeTableWord 8 0x01 = some .start ∧
      decodeTableWord 8 0x06 = some (.addrFwd 3 false) ∧ decodeTableWord 8 0x80 = some (.dataPass 0x80) := by decide

/-! ## One step on a placed byte -/

/-- V-PAR-3. -/
theorem test_step_addrFwd :
    ∃ t, step (State.reset.withFetchWord 8 0x7F) = .next t ∧ t.txLog = [0x7D] ∧ t.pstate = .idle :=
  ⟨_, rfl, by decide⟩

/-- V-PAR-7. -/
theorem test_step_start : ∃ t, step (State.reset.withFetchWord 8 0x01) = .next t ∧ t.pstate = .waitData1 :=
  ⟨_, rfl, by decide⟩

/-- V-PAR-9. -/
theorem test_step_dataPass :
    ∃ t, step (State.reset.withFetchWord 8 0xFF) = .next t ∧ t.txLog = [0xFF] ∧ t.pstate = .idle :=
  ⟨_, rfl, by decide⟩

/-- V-PAR-11. -/
theorem test_step_data1 :
    ∃ t, step ((readyIn .waitData1).withFetchWord 8 0xE5) = .next t ∧ t.dutyRaw = 5 ∧ t.pstate = .waitData2 ∧
      t.txLog = [] :=
  ⟨_, rfl, by decide⟩

/-- L1-1. -/
theorem test_step_data2 :
    ∃ t, step ((readyIn .waitData2).withFetchWord 8 0x8B) = .next t ∧ t.mode = .sine ∧ t.freqIndex = 3 ∧
      t.bridgeLog = [.neutral] ∧ t.pstate = .idle :=
  ⟨_, rfl, rfl, rfl, rfl, rfl⟩

/-- V-RX-2: the overrun byte is dropped. -/
theorem test_step_overrun :
    ∃ t, step (holding 0x9F { readyIn .waitData1 with rxOerr := true }) = .next t ∧ t.pstate = .waitData1 ∧
      t.rxOerr = false ∧ t.rxPending = false :=
  ⟨_, rfl, by decide⟩

/-! ## The operations under the reference configuration -/

/-- V-CAL-1. -/
theorem test_calibration :
    (List.finRange 32).map (fun r => calibratedDuty ref (BitVec.ofFin r)) =
      [0, 3, 6, 10, 13, 16, 19, 23, 26, 29, 32, 35, 39, 42, 45, 48, 52, 55, 58, 61, 65, 68, 71, 74, 77, 81, 84, 87, 90,
        94, 97, 100] := by decide

/-- V-CAL-2. -/
theorem test_amplitude :
    (List.finRange 32).map (fun r => amplitude ref (calibratedDuty ref (BitVec.ofFin r))) =
      [0, 8, 15, 26, 33, 41, 48, 59, 66, 74, 82, 89, 99, 107, 115, 122, 133, 140, 148, 156, 166, 173, 181, 189, 196,
        207, 214, 222, 230, 240, 247, 255] := by decide

/-- V-CAL-3. -/
theorem test_rounding : rnd 765 100 = 8 ∧ rnd 366 4 = 92 ∧ rnd 12 8 = 2 ∧ rnd 1 3 = 0 := by decide

/-- L1-1: sine entry; `SR[3]` is symbolic. -/
theorem test_complete_sine :
    let t := complete ref true 3 { ready with dutyRaw := 15 }
    (t.dutyPercent = 48 ∧ t.amp = 122 ∧ t.taEn = true ∧ t.tbEn = false ∧ t.colorIndex = 15) ∧
      t.taReload = ref.sineReload 3 :=
  ⟨by decide, rfl⟩

/-- V-SEL-4: square duty 0 while on. -/
theorem test_complete_square_coast :
    let t := complete ref false 1 { square 48 0 with dutyRaw := 0 }
    t.bridge = .neutral ∧ t.pwmWidth = 1 ∧ t.bridgeEnabled = false ∧ t.dutyApplied = true ∧
      t.squarePending = true ∧ t.bridgeLog = [.neutral] := by decide

/-- L1-2: STOP while sine is active. -/
theorem test_teardown :
    let t := teardown ref { sine with phase := 1, lastSign := .plus, bridge := .pos, pwmWidth := 92, taPending := true }
    t.mode = .idle ∧ t.dutyPercent = 0 ∧ t.pwmWidth = 0 ∧ pwmCompare ref t = 255 ∧ t.taPending = false ∧
      t.bridgeLog = [.neutral] ∧ t.colorRefresh = true := by decide

/-- V-SIN-2: the first tick after entry. -/
theorem test_sineTick :
    let t := sineTick ref sine
    t.phase = 1 ∧ t.bridgeLog = [.neutral, .pos] ∧ t.lastSign = .plus ∧ t.pwmWidth = 92 ∧ pwmCompare ref t = 163 := by
  decide

/-- V-SIN-4: a silent tick. -/
theorem test_sineTick_silent :
    let t := sineTick ref { sine with amp := 0, phase := 1, lastSign := .plus }
    t.phase = 2 ∧ t.bridgeLog = [.neutral] ∧ t.pwmWidth = 0 ∧ t.lastSign = .plus := by decide

/-- V-SQ-6: the wrap. -/
theorem test_squareTick_wrap :
    (squareTick (square 48 199)).wc = 0 ∧ (squareTick (square 48 199)).squarePending = true := by decide

/-- V-SQ-7: the half change after coalesced ticks. -/
theorem test_squareProcess_half :
    let t := squareProcess ref { square 3 3 with wc := 100, squarePending := true }
    t.bridgeLog = [.neutral, .neg] ∧ t.pwmWidth = 254 := by decide

/-- V-OUT-3. -/
theorem test_setPwm_clamps :
    (setPwm ref 300 ready).pwmWidth = 255 ∧ pwmCompare ref (setPwm ref 300 ready) = 0 ∧
      pwmCompare refActiveHigh (setPwm refActiveHigh 92 ready) = 92 := by decide

/-- R140, R148: opposite directions at the width in `Pos` and `Neg`, none in `Neutral` whatever the width. -/
theorem test_differentialDrive :
    differentialDrive { ready with bridge := .pos, pwmWidth := 92 } = 92 ∧
      differentialDrive { ready with bridge := .neg, pwmWidth := 92 } = -92 ∧
      differentialDrive { ready with bridge := .neutral, pwmWidth := 92 } = 0 := by decide

/-! ## Witnesses of the obligations' hypotheses -/

/-- DecodeInvertsEncode. -/
theorem test_witness_decode :
    ([(.idle, .addrFwd 63 true), (.waitData2, .addrFwd 1 false), (.idle, .stop), (.waitData1, .start),
      (.idle, .dataPass 0xFF), (.waitData1, .data1 3 31), (.waitData2, .data2 7 true 7)] : List (PState × Instr)).all
      (fun x => x.2.wellFormed && x.2.readIn x.1) = true := by decide

/-- StepRunsDecodedCommand. -/
theorem test_witness_stepRuns :
    let s := holding 0x8F (readyIn .waitData1)
    nextAction s = .service .rx ∧ s.gie = true ∧ s.rxPending = true ∧ s.rxOerr = false ∧ s.rxFerr = false ∧
      (s.rxPerr = false ∨ Config.node.parityEnabled = false) ∧ decode s.pstate [s.rxBuf] = .ok (.data1 0 15, []) :=
  ⟨rfl, rfl, rfl, rfl, rfl, .inl rfl, rfl⟩

/-- PlacedWordRunsNext. -/
theorem test_witness_placedWord : (0xFF : Nat) < 256 := by decide

/-- ServiceNeedsGieAndRequest, its three cases. -/
theorem test_witness_service :
    (let s := next (.service .timerA) { State.reset with taPending := true };
      nextAction s = .service .timerA ∧ s.gie = false) ∧
    (let s := next (.service .timerB) ready;
      nextAction s = .service .timerB ∧ requested .timerB s = false) ∧
    (let s := holding 0x01 ready;
      nextAction s = .service .rx ∧ s.gie = true ∧ requested .rx s = true) := by decide

/-- ReceiveErrorContained: overrun and framing. -/
theorem test_witness_receiveError :
    (let s := holding 0x01 { ready with rxOerr := true };
      nextAction s = .service .rx ∧ s.gie = true ∧ s.rxPending = true ∧ s.rxOerr = true) ∧
    (let s := holding 0x01 { ready with rxFerr := true };
      nextAction s = .service .rx ∧ s.gie = true ∧ s.rxPending = true ∧ s.rxFerr = true) := by decide

/-- ReceiveErrorContained: parity, in a node whose parity check is enabled. -/
theorem test_witness_receiveParity :
    let s := holding 0x01 { ready with rxPerr := true }
    Config.node.parityEnabled = true →
      nextAction s = .service .rx ∧ s.gie = true ∧ s.rxPending = true ∧
        (s.rxPerr = true ∧ Config.node.parityEnabled = true) :=
  fun h => ⟨rfl, rfl, rfl, rfl, h⟩

/-- AddrFwdForwardsDecremented: the ends of the address range. -/
theorem test_witness_addrFwd :
    ((0x02 : Byte).getLsbD 7 = false ∧ (0x02 : Byte).extractLsb' 1 6 ≠ 0) ∧
      ((0x7F : Byte).getLsbD 7 = false ∧ (0x7F : Byte).extractLsb' 1 6 ≠ 0) ∧
      (1 : BitVec 6) ≠ 0 ∧ (63 : BitVec 6) ≠ 0 := by decide

/-- StopForgetsPriorState: two states far apart. -/
theorem test_witness_stopForgets :
    let s := ready
    let u := { square 48 30 with phase := 5, pstate := .waitData2, tbPending := true, pwmWidth := 9 }
    SameSurroundings s u ∧ SameTransmit s u ∧ SameColor s u ∧ u.bridgeLog = s.bridgeLog ∧ u.taReload = s.taReload ∧
      u.tbPeriod = s.tbPeriod := by decide

/-- DataPassForwardsVerbatim, Data1LatchesDuty: the ends of the data bytes. -/
theorem test_witness_dataByte : (0x80 : Byte).getLsbD 7 = true ∧ (0xFF : Byte).getLsbD 7 = true := by decide

/-- Data2EntersSine, Data2EntersSquare. -/
theorem test_witness_modeChange :
    State.reset.mode ≠ .sine ∧ (square 48 0).mode ≠ .sine ∧ State.reset.mode ≠ .square ∧ sine.mode ≠ .square := by
  decide

/-- Data2KeepsSineRunning: its silent case for every node, its other case under the reference configuration. -/
theorem test_witness_sineKept :
    sine.mode = .sine ∧ (∀ c : Config.Params, amplitude c (calibratedDuty c 0) = 0) ∧
      amplitude ref (calibratedDuty ref sine.dutyRaw) ≠ 0 := by
  refine ⟨rfl, fun c => ?_, by decide⟩
  simp [calibratedDuty, amplitude, rnd, c.cal_zero]

/-- Data2KeepsSquareRunning: its coasting case for every node, and one that does not coast. -/
theorem test_witness_squareKept :
    (square 48 0).mode = .square ∧
      (∀ c : Config.Params, calibratedDuty c 0 = 0 ∧ (square 48 0).bridgeEnabled = true) ∧
      (square 48 48).bridgeEnabled = false := by
  refine ⟨rfl, fun c => ⟨?_, rfl⟩, rfl⟩
  simp [calibratedDuty, c.cal_zero]

/-- ReservedBitsHaveNoEffect. -/
theorem test_witness_reserved :
    ((readyIn .waitData1).pstate = .waitData1 ∧ (0x8F : Byte).getLsbD 7 = true ∧ (0xEF : Byte).getLsbD 7 = true ∧
      (0x8F : Byte) &&& 0x1F = 0xEF &&& 0x1F) ∧
    ((readyIn .waitData2).pstate = .waitData2 ∧ (0x8B : Byte).getLsbD 7 = true ∧ (0xFB : Byte).getLsbD 7 = true ∧
      (0x8B : Byte) &&& 0x0F = 0xFB &&& 0x0F) := by decide

/-- RepeatedFrameSameConfiguration. -/
theorem test_witness_repeatedFrame :
    ReadyToReceive (readyIn .waitData2) ∧ (0x8F : Byte).getLsbD 7 = true ∧ (0x8B : Byte).getLsbD 7 = true := by decide

/-- FrameReachesItsHop: no node, as many nodes as hops, and fewer. -/
theorem test_witness_chain :
    ((∀ s ∈ ([] : List State), ReadyToReceive s) ∧ ([] : List State).length ≤ (0 : BitVec 6).toNat) ∧
    ((∀ s ∈ [sine, readyIn .waitData1], ReadyToReceive s) ∧
      [sine, readyIn .waitData1].length ≤ (2 : BitVec 6).toNat) ∧
    ((∀ s ∈ [ready], ReadyToReceive s) ∧ [ready].length ≤ (63 : BitVec 6).toNat) := by decide

/-- AbortedDutyUnread, TimerValuesUnread, OutputStreamsOnlyGrow: a step that parses a byte. -/
theorem test_witness_parsingStep :
    ∃ t, (holding 0x06 { readyIn .waitData1 with dutyRaw := 5 }).pstate ≠ .waitData2 ∧
      step (holding 0x06 { readyIn .waitData1 with dutyRaw := 5 }) = .next t ∧ t.txLog = [0x04] :=
  ⟨_, by decide, rfl, by decide⟩

/-- OnlyHostWritesGie. -/
theorem test_witness_gie :
    ∃ t, step (next (.hostSetGie true) State.reset) = .next t ∧ t.gie ≠ (next (.hostSetGie true) State.reset).gie :=
  ⟨_, rfl, by decide⟩

/-- RequestsClearedByServiceOnly, ReceiveHandlerTestsErrors: a tick that is served, and STOP while a tick waits. -/
theorem test_witness_requests :
    (∃ t, step (next (.service .timerB) { square 48 0 with tbPending := true }) = .next t ∧
      requested .timerB (next (.service .timerB) { square 48 0 with tbPending := true }) = true ∧
      requested .timerB t = false) ∧
    ∃ t, step (holding 0x00 { sine with taPending := true }) = .next t ∧
      requested .timerA (holding 0x00 { sine with taPending := true }) = true ∧ t.mode = .idle :=
  ⟨⟨_, rfl, rfl, rfl⟩, ⟨_, rfl, rfl, by simp [teardown]; split <;> rfl⟩⟩

/-- BridgeWriteIsTheOnlyWriter: a step that writes the bridge twice. -/
theorem test_witness_bridgeWrites :
    ∃ t, step (next .process { square 48 0 with squarePending := true, dutyApplied := false }) = .next t ∧
      t.bridgeLog = [.neutral, .pos] :=
  ⟨_, rfl, rfl⟩

/-- EnvironmentLeavesActuation, ParserStateWrittenByReceiveOnly. -/
theorem test_witness_environment :
    ∃ t, step (next .expireA sine) = .next t ∧ (∀ src, nextAction (next .expireA sine) ≠ .service src) ∧
      nextAction (next .expireA sine) ≠ .process ∧ t.taPending = true :=
  ⟨_, rfl, fun src => by cases src <;> decide, by decide, rfl⟩

/-- The invariants' steps: a state of each waveform that meets them, and a step from it. -/
theorem test_witness_modeConsistent_square :
    ∃ t, ModeConsistent (next .process { square 48 0 with squarePending := true }) ∧
      step (next .process { square 48 0 with squarePending := true }) = .next t :=
  ⟨_, by constructor <;> decide, rfl⟩

theorem test_witness_modeConsistent_sine :
    ∃ t, ModeConsistent (next (.service .timerA) { sine with taPending := true }) ∧
      step (next (.service .timerA) { sine with taPending := true }) = .next t :=
  ⟨_, by constructor <;> decide, rfl⟩

theorem test_witness_logConsistent :
    ∃ t, LogConsistent (next .process { square 48 0 with bridgeLog := [.neutral, .pos], squarePending := true }) ∧
      step (next .process { square 48 0 with bridgeLog := [.neutral, .pos], squarePending := true }) = .next t :=
  ⟨_, by decide, rfl⟩

theorem test_witness_polarity :
    ∃ t, PolarityConsistent (next (.service .timerA) { sine with lastSign := .minus, bridge := .neg, taPending := true }) ∧
      step (next (.service .timerA) { sine with lastSign := .minus, bridge := .neg, taPending := true }) = .next t :=
  ⟨_, by constructor <;> decide, rfl⟩

theorem test_witness_receiverConsistent :
    ∃ t, ReceiverConsistent (next (.rxArrive 0x8F true false) ready) ∧
      step (next (.rxArrive 0x8F true false) ready) = .next t ∧ t.rxFerr = true :=
  ⟨_, by decide, rfl, rfl⟩

theorem test_witness_inRange :
    ∃ t, InRange Config.node (next .process { square 100 199 with squarePending := true }) ∧
      step (next .process { square 100 199 with squarePending := true }) = .next t :=
  ⟨_, ⟨by decide, Nat.zero_le _, Config.node.sineLen_pos, by decide, Nat.zero_le _⟩, rfl⟩

/-- CalibrationCurve, AmplitudeScale, WindowOnCount: the ends of the ranges. -/
theorem test_witness_duties :
    (1 : BitVec 5) ≠ 0 ∧ (0 : BitVec 5) ≤ 31 ∧ (0 : Nat) ≤ 100 ∧ (100 : Nat) ≤ 100 ∧
      2 * ref.pwmTop * 0 < 100 ∧ ¬ 2 * ref.pwmTop * 1 < 100 := by decide

/-- PwmClampAndCompare: both polarities. -/
theorem test_witness_polarities : ref.pwmActiveLow = true ∧ refActiveHigh.pwmActiveLow = false := by decide

/-- SquareTickAdvancesWindow: in Square and outside it. -/
theorem test_witness_squareTick :
    (let s := { square 48 199 with tbPending := true };
      s.gie = true ∧ s.tbPending = true ∧ s.mode = .square) ∧
    (let s := { ready with tbPending := true };
      s.gie = true ∧ s.tbPending = true ∧ s.mode ≠ .square) := by decide

/-- WindowReissueOnlyOnChange: applied already, newly on, newly off, and the half alone changed. -/
theorem test_witness_reissue :
    let met (s : State) := s.squarePending = true ∧ s.mode = .square
    let same (s : State) :=
      s.dutyApplied = true ∧ s.bridgeEnabled = windowOn s.wc s.dutyPercent ∧ s.appliedHalf = halfOf s.wc
    (let s := { square 48 47 with squarePending := true };
      met s ∧ same s) ∧
    (let s := { square 48 0 with squarePending := true, dutyApplied := false };
      met s ∧ ¬ same s ∧ windowOn s.wc s.dutyPercent = true) ∧
    (let s := { square 48 47 with squarePending := true, wc := 48 };
      met s ∧ ¬ same s ∧ windowOn s.wc s.dutyPercent = false) ∧
    (let s := { square 100 99 with squarePending := true, wc := 100 };
      met s ∧ ¬ same s ∧ windowOn s.wc s.dutyPercent = true) := by decide

/-- ReissuePointsOfFullWindow: before each listed count, at the ends of the duty range and inside it. -/
theorem test_witness_reissuePoints :
    [(0, 199), (0, 99), (1, 0), (1, 100), (48, 47), (48, 147), (48, 99), (48, 199), (48, 10), (99, 98), (99, 198),
      (100, 99), (100, 199), (100, 50)].all (fun x =>
        decide ((square x.1 x.2).mode = .square ∧ (square x.1 x.2).wc < 200 ∧ (square x.1 x.2).dutyPercent ≤ 100 ∧
          WindowApplied (square x.1 x.2))) = true := by decide

/-- SquareDutyExtremes. -/
theorem test_witness_dutyExtremes :
    ∃ t, ModeConsistent (next .process { square 0 99 with squarePending := true }) ∧
      step (next .process { square 0 99 with squarePending := true }) = .next t ∧ t.mode = .square ∧
      t.dutyPercent = 0 :=
  ⟨_, by constructor <;> decide, rfl, rfl, rfl⟩

/-- ZeroSampleInheritsSign. -/
theorem test_witness_signs : (0 : Int) < 1 ∧ (-1 : Int) < 0 ∧ zeroCross 0 .zero = .zero := by decide

/-- SilentTickCoasts, SineTickRoutesOnSignChange. -/
theorem test_witness_sineTicks :
    (let s := { sine with taPending := true, amp := 0 };
      s.gie = true ∧ s.taPending = true ∧ s.mode = .sine ∧ s.amp = 0) ∧
    (let s := { sine with taPending := true };
      s.gie = true ∧ s.taPending = true ∧ s.mode = .sine ∧ s.amp ≠ 0) := by decide

/-- ForwardDutyWithinAmplitude. -/
theorem test_witness_forwardDuty : (-4 : Int).natAbs ≤ ref.tablePeak := by decide

/-- ZeroCrossingLawOverRun: a tick that routes, one that does not, and a zero sample. -/
theorem test_witness_crossings :
    sine.mode = .sine ∧ sine.amp ≠ 0 ∧ (sineRun ref 1 sine).lastSign ≠ (sineRun ref 0 sine).lastSign ∧
      (sineRun ref 2 sine).lastSign = (sineRun ref 1 sine).lastSign ∧
      sampleAt ref (sineRun ref 4 sine).phase = 0 := by decide

/-- DriveResumesAtCrossing, as in V-SIN-5. -/
theorem test_witness_resume :
    let s := { sine with phase := 1, lastSign := .plus }
    s.mode = .sine ∧ s.amp ≠ 0 ∧ s.bridge = .neutral ∧
      ∀ k < 3, zeroCross (sampleAt ref (s.phase + (k + 1))) s.lastSign = s.lastSign := by decide

end Sys2Proof.Tests
end

/-! PROOFS. The state's rules (10_state.md): what every step keeps of the ranges, of the modes and of the receiver, which
step writes which field, and that a latched duty is read by data byte 2 alone. -/

namespace Sys2Proof.Machine

open Sys2Proof.Config

/-! ## What the meanings can do, by case -/

/-- No command writes the receive fields, the interrupt enable or the model's own fields. -/
theorem exec_surroundings {i : Instr} {s t : State} (h : exec i s = .next t) : SameSurroundings s t := by
  cases i <;> simp at h <;> subst h <;> and_intros <;> simp [SameGie]

/-- A command transmits one byte at most. -/
theorem exec_txLog {i : Instr} {s t : State} (h : exec i s = .next t) :
    ∃ bytes : List Byte, t.txLog = s.txLog ++ bytes ∧ bytes.length ≤ 1 := by
  cases i with
  | addrFwd addr start => simp at h; subst h; exact ⟨[addressByte (addr - 1) start], by simp⟩
  | dataPass byte => simp at h; subst h; exact ⟨[byte], by simp⟩
  | stop | start | data1 | data2 => simp at h; subst h; exact ⟨[], by simp⟩

/-- Every command is read in the parser state it was decoded in. -/
theorem decodeByte_readIn (p : PState) (b : Byte) : (decodeByte p b).readIn p = true := by
  unfold decodeByte
  split
  · cases p <;> rfl
  · split
    · rfl
    · split <;> rfl

theorem rxHandler_accepted {s : State} (h : rxVerdict node.parityEnabled s = .accepted) :
    rxHandler s = exec (decodeByte s.pstate s.rxBuf) (clearRx s) := by
  simp [rxHandler, parse, h]

theorem rxHandler_rejected {s : State} (h : rxVerdict node.parityEnabled s ≠ .accepted) :
    rxHandler s = .next (clearRx s) := by
  unfold rxHandler
  split
  · contradiction
  all_goals rfl

theorem rxArrive_rxPending (b : Byte) (fe pe : Bool) (s : State) : (rxArrive b fe pe s).rxPending = true := by
  unfold rxArrive
  split <;> simp_all

theorem perform_service {src : Source} {s : State} (h : serviceable src s = true) :
    perform (.service src) s = service src s := if_pos h

theorem perform_service_disabled {src : Source} {s : State} (h : ¬serviceable src s = true) :
    perform (.service src) s = .next s := if_neg h

theorem perform_process {s : State} (h : s.squarePending = true) :
    perform .process s = .next (squareProcess node s) := congrArg _ (if_pos h)

theorem perform_process_disabled {s : State} (h : ¬s.squarePending = true) : perform .process s = .next s :=
  congrArg _ (if_neg h)

@[simp] theorem configureSine_taEn (c : Params) (same : Bool) (s : State) : (configureSine c same s).taEn = true := by
  unfold configureSine
  dsimp only
  split <;> simp

/-- A property of a completed frame's state holds if it holds in each of the two waveforms, kept or entered. -/
theorem complete_rule {P : State → Prop} (c : Params) (f : BitVec 3) (s : State)
    (sineKept : s.mode = .sine → P (configureSine c true (recordFrame c f s)))
    (sineNew : P (configureSine c false (recordFrame c f (enterWave c true s))))
    (squareKept : s.mode = .square → P (configureSquare c true (recordFrame c f s)))
    (squareNew : P (configureSquare c false (recordFrame c f (enterWave c false s)))) (w : Bool) :
    P (complete c w f s) := by
  cases w with
  | true =>
    by_cases hm : s.mode = .sine
    · exact complete_sine_same c f hm ▸ sineKept hm
    · exact complete_sine_new c f hm ▸ sineNew
  | false =>
    by_cases hm : s.mode = .square
    · exact complete_square_same c f hm ▸ squareKept hm
    · exact complete_square_new c f hm ▸ squareNew

/-- The window processor clears its flag, and in Square mode may apply the state of the current tick. -/
theorem squareProcess_cases (c : Params) (s : State) :
    squareProcess c s = { s with squarePending := false } ∨
      (s.mode = .square ∧ squareProcess c s =
        applyWindow c (windowOn s.wc s.dutyPercent) (halfOf s.wc) { s with squarePending := false }) := by
  by_cases hm : s.mode = .square
  · cases ha : alreadyApplied (windowOn s.wc s.dutyPercent) (halfOf s.wc) s with
    | true => exact .inl (squareProcess_applied c hm ha)
    | false => exact .inr ⟨hm, squareProcess_apply c hm ha⟩
  · exact .inl (squareProcess_other c hm)

/-! ## Invariants of the actuation fields -/

/-- A property of the actuation fields is kept by every step if STOP, a completed frame, the two ticks, the window
processor and the two expiries keep it: no other step writes these fields. -/
theorem step_keeps_actuation {P : State → Prop}
    (frame : ∀ {s t}, SameActuation s t → P s → P t)
    (stop : ∀ s, P s → P (teardown node s))
    (complete : ∀ w f s, P s → P (complete node w f s))
    (sine : ∀ s, P s → P (sineTick node { s with taPending := false }))
    (square : ∀ s, P s → P (squareTick { s with tbPending := false }))
    (process : ∀ s, P s → P (squareProcess node s))
    (expA : ∀ s, s.taEn = true → P s → P { s with taPending := true })
    (expB : ∀ s, s.tbEn = true → P s → P { s with tbPending := true })
    {s t : State} (hs : P s) (h : step s = .next t) : P t := by
  refine step_keeps (fun s => frame ?take) (fun s => frame ?clear) ?command (fun s _ => sine s) (fun s _ => square s)
    (fun s _ => process s) (fun b fe pe s => frame ?arrive) expA expB (fun v s => frame ?setGie) (fun s => frame ?ack)
    hs h
  case command =>
    intro i s t hs he
    cases i with
    | stop => simp at he; subst he; exact frame (by and_intros <;> simp) (stop s hs)
    | data2 r w f => simp at he; subst he; exact frame (by and_intros <;> simp) (complete w f s hs)
    | addrFwd | start | dataPass | data1 => simp at he; subst he; exact frame (by and_intros <;> simp) hs
  all_goals and_intros <;> simp

/-! ## The declared ranges (R26, R28, R29, R31, R41) -/

theorem driveSample_pwmWidth_le (c : Params) (x : Int) (s : State) : (driveSample c x s).pwmWidth ≤ c.pwmTop := by
  unfold driveSample
  dsimp only
  split <;> simp

theorem applyWindow_pwmWidth_le (c : Params) (on : Bool) (h : Half) (s : State) :
    (applyWindow c on h s).pwmWidth ≤ c.pwmTop := by
  cases on <;> simp [applyWindow]

theorem amplitude_le (c : Params) (dp : Nat) : amplitude c dp ≤ c.pwmTop := Nat.min_le_left _ _

theorem calibratedDuty_le (c : Params) (raw : BitVec 5) : calibratedDuty c raw ≤ 100 := Nat.min_le_left _ _

/-- The fields the ranges speak of. -/
theorem InRange.congr {c : Params} {s t : State} (hs : InRange c s) (hd : t.dutyPercent = s.dutyPercent)
    (ha : t.amp = s.amp) (hp : t.phase = s.phase) (hw : t.wc = s.wc) (hb : t.pwmWidth = s.pwmWidth) : InRange c t :=
  ⟨hd ▸ hs.dutyPercent_le, ha ▸ hs.amp_le, hp ▸ hs.phase_lt, hw ▸ hs.wc_lt, hb ▸ hs.pwmWidth_le⟩

theorem inRange_teardown (c : Params) (s : State) : InRange c (teardown c s) :=
  ⟨by simp, by simp, (teardown_phase c s).symm ▸ c.sineLen_pos, by simp, by simp⟩

theorem InRange.enterWave {c : Params} {s : State} (hs : InRange c s) (w : Bool) : InRange c (enterWave c w s) := by
  have hpos := c.sineLen_pos
  obtain ⟨hd, -, hp, hw, -⟩ := hs
  cases w with
  | true => exact ⟨by simpa, by simp [enterWave_sine], hpos, by simpa [enterWave_sine], by simp [enterWave_sine]⟩
  | false => exact ⟨by simpa, by simp [enterWave_square], by simpa [enterWave_square], by simp [enterWave_square],
      by simp [enterWave_square]⟩

theorem InRange.recordFrame {c : Params} {s : State} (hs : InRange c s) (f : BitVec 3) :
    InRange c (recordFrame c f s) :=
  { hs with dutyPercent_le := calibratedDuty_le c s.dutyRaw }

theorem InRange.configureSine {c : Params} {s : State} (hs : InRange c s) (same : Bool) :
    InRange c (configureSine c same s) := by
  have ha := amplitude_le c s.dutyPercent
  obtain ⟨hd, -, hp, hw, hb⟩ := hs
  unfold Machine.configureSine
  dsimp only
  split
  · exact ⟨by simpa, by simpa, by simpa, by simpa, by simp⟩
  · exact ⟨hd, ha, hp, hw, hb⟩

theorem InRange.configureSquare {c : Params} {s : State} (hs : InRange c s) (same : Bool) :
    InRange c (configureSquare c same s) := by
  obtain ⟨hd, ha, hp, hw, hb⟩ := hs
  unfold Machine.configureSquare
  dsimp only
  split
  · exact ⟨by simpa, by simpa, by simpa, by simpa, by simp⟩
  · exact ⟨hd, ha, hp, hw, hb⟩

theorem InRange.complete {c : Params} {s : State} (hs : InRange c s) (w : Bool) (f : BitVec 3) :
    InRange c (complete c w f s) :=
  complete_rule c f s (fun _ => (hs.recordFrame f).configureSine true)
    (((hs.enterWave true).recordFrame f).configureSine false) (fun _ => (hs.recordFrame f).configureSquare true)
    (((hs.enterWave false).recordFrame f).configureSquare false) w

theorem InRange.sineTick {c : Params} {s : State} (hs : InRange c s) : InRange c (sineTick c s) := by
  by_cases hm : s.mode = .sine
  · rw [sineTick_sine c hm]
    obtain ⟨hd, ha, -, hw, -⟩ := hs
    exact ⟨by simpa, by simpa, by simpa using Nat.mod_lt _ c.sineLen_pos, by simpa, driveSample_pwmWidth_le c _ _⟩
  · rwa [sineTick_other c hm]

theorem InRange.squareTick {c : Params} {s : State} (hs : InRange c s) : InRange c (squareTick s) := by
  by_cases hm : s.mode = .square
  · rw [squareTick_square hm]
    exact { hs with wc_lt := Nat.mod_lt _ (by decide) }
  · rwa [squareTick_other hm]

theorem InRange.squareProcess {c : Params} {s : State} (hs : InRange c s) : InRange c (squareProcess c s) := by
  rcases squareProcess_cases c s with h | ⟨-, h⟩ <;> rw [h]
  · exact { hs with }
  · obtain ⟨hd, ha, hp, hw, -⟩ := hs
    exact ⟨by simpa, by simpa, by simpa, by simpa, applyWindow_pwmWidth_le c _ _ _⟩

/-! ## Mode exclusion (R53, R169): what the invariant says in each mode -/

theorem modeConsistent_iff_of_idle {s : State} (hm : s.mode = .idle) :
    ModeConsistent s ↔ s.taEn = false ∧ s.tbEn = false ∧ s.taPending = false ∧ s.tbPending = false ∧
      s.squarePending = false ∧ s.bridge = .neutral ∧ s.pwmWidth = 0 ∧ s.dutyPercent = 0 := by
  constructor
  · rintro ⟨htimers, hsilent, -, -, hA, hB, hproc, -, -, -⟩
    simp_all
  · rintro ⟨hta, htb, htap, htbp, hsp, hb, hw, hd⟩
    constructor <;> simp_all

theorem modeConsistent_iff_of_sine {s : State} (hm : s.mode = .sine) :
    ModeConsistent s ↔ s.tbEn = false ∧ s.tbPending = false ∧ s.squarePending = false ∧
      (s.taPending = true → s.taEn = true) ∧ (s.amp = 0 → s.bridge = .neutral ∧ s.pwmWidth = 0) := by
  constructor
  · rintro ⟨-, -, -, htb, hA, hB, hproc, hsilent, -, -⟩
    simp_all
  · rintro ⟨htb, htbp, hsp, hA, hsilent⟩
    constructor <;> simp_all

theorem modeConsistent_iff_of_square {s : State} (hm : s.mode = .square) :
    ModeConsistent s ↔ s.taEn = false ∧ s.taPending = false ∧ (s.tbPending = true → s.tbEn = true) ∧
      (s.bridgeEnabled = false → s.bridge = .neutral) ∧ (s.dutyPercent = 0 → s.bridge = .neutral) := by
  constructor
  · rintro ⟨-, -, hta, -, hA, hB, -, -, hoff, hsilent⟩
    simp_all
  · rintro ⟨hta, htap, hB, hoff, hsilent⟩
    constructor <;> simp_all

theorem ModeConsistent.congr {s t : State} (h : SameActuation s t) (hs : ModeConsistent s) : ModeConsistent t := by
  obtain ⟨⟨hm, hd, -, ha⟩, -, ⟨-, hbe, -, -, hsp⟩, ⟨hta, -, htb, -⟩, ⟨htap, htbp⟩, hb, hw, -⟩ := h
  cases hs
  constructor <;> simpa only [hm, hd, ha, hbe, hsp, hta, htb, htap, htbp, hb, hw]

theorem modeConsistent_teardown (c : Params) (s : State) : ModeConsistent (teardown c s) :=
  (modeConsistent_iff_of_idle (by simp)).2 (by simp)

/-- A frame for Sine coasts at amplitude 0 in a kept mode; after a mode change the output is silent already. -/
theorem ModeConsistent.configureSine_recordFrame {c : Params} {f : BitVec 3} {s : State} {same : Bool}
    (hs : ModeConsistent s) (hm : s.mode = .sine) (hq : same = true ∨ (s.bridge = .neutral ∧ s.pwmWidth = 0)) :
    ModeConsistent (configureSine c same (recordFrame c f s)) := by
  obtain ⟨htb, htbp, hsp, -, -⟩ := (modeConsistent_iff_of_sine hm).1 hs
  refine (modeConsistent_iff_of_sine (by simpa)).2 ⟨by simpa, by simpa, by simpa, by simp, ?_⟩
  by_cases ha : amplitude c (recordFrame c f s).dutyPercent = 0
  · cases same with
    | true => simp [configureSine_silent c ha]
    | false => simpa [configureSine_new] using fun _ => hq
  · rw [configureSine_loud c same ha]
    exact fun h => absurd h ha

/-- A frame for Square at duty 0 coasts where the bridge is enabled in a kept mode; elsewhere it is `Neutral` already. -/
theorem ModeConsistent.configureSquare_recordFrame {c : Params} {f : BitVec 3} {s : State} {same : Bool}
    (hs : ModeConsistent s) (hm : s.mode = .square) (hq : same = true ∨ s.bridge = .neutral) :
    ModeConsistent (configureSquare c same (recordFrame c f s)) := by
  obtain ⟨hta, htap, -, hoff, -⟩ := (modeConsistent_iff_of_square hm).1 hs
  by_cases hcoast : same = true ∧ (recordFrame c f s).dutyPercent = 0 ∧ (recordFrame c f s).bridgeEnabled = true
  · obtain ⟨rfl, hd, hb⟩ := hcoast
    rw [configureSquare_coast c hd hb]
    exact (modeConsistent_iff_of_square (by simpa)).2 ⟨hta, htap, by simp, by simp, by simp⟩
  · rw [configureSquare_quiet c hcoast]
    refine (modeConsistent_iff_of_square (by simpa)).2 ⟨hta, htap, fun _ => rfl, hoff, fun hd => ?_⟩
    rcases hq with hsame | hb
    · exact hoff (Bool.eq_false_iff.2 fun hb => hcoast ⟨hsame, hd, hb⟩)
    · exact hb

/-- A mode change leaves the old mode first, whatever it was. -/
theorem modeConsistent_enterWave (c : Params) (w : Bool) (s : State) : ModeConsistent (enterWave c w s) := by
  cases w with
  | true => exact (modeConsistent_iff_of_sine rfl).2 (by simp [enterWave_sine])
  | false => exact (modeConsistent_iff_of_square rfl).2 (by simp [enterWave_square])

theorem ModeConsistent.complete {c : Params} {s : State} (hs : ModeConsistent s) (w : Bool) (f : BitVec 3) :
    ModeConsistent (complete c w f s) :=
  complete_rule c f s (fun hm => hs.configureSine_recordFrame hm (.inl rfl))
    ((modeConsistent_enterWave c true s).configureSine_recordFrame rfl (.inr (by simp [enterWave_sine])))
    (fun hm => hs.configureSquare_recordFrame hm (.inl rfl))
    ((modeConsistent_enterWave c false s).configureSquare_recordFrame rfl (.inr (by simp [enterWave_square]))) w

/-- A request that is served is cleared. -/
theorem ModeConsistent.clearTimerA {s : State} (hs : ModeConsistent s) : ModeConsistent { s with taPending := false } :=
  { hs with requestA_enabled := nofun }

theorem ModeConsistent.clearTimerB {s : State} (hs : ModeConsistent s) : ModeConsistent { s with tbPending := false } :=
  { hs with requestB_enabled := nofun }

theorem ModeConsistent.sineTick {c : Params} {s : State} (hs : ModeConsistent s) : ModeConsistent (sineTick c s) := by
  by_cases hm : s.mode = .sine
  · obtain ⟨htb, htbp, hsp, hA, -⟩ := (modeConsistent_iff_of_sine hm).1 hs
    refine (modeConsistent_iff_of_sine (by simpa)).2 ⟨by simpa, by simpa, by simpa, by simpa, fun ha => ?_⟩
    rw [sineTick_sine c hm, driveSample_silent c _ (by simpa using ha)]
    simp
  · rwa [sineTick_other c hm]

theorem ModeConsistent.squareTick {s : State} (hs : ModeConsistent s) : ModeConsistent (squareTick s) := by
  by_cases hm : s.mode = .square
  · rw [squareTick_square hm]
    exact { hs with process_square := fun _ => hm }
  · rwa [squareTick_other hm]

/-- At duty 0 the window is never on. -/
theorem windowOn_zero (wc : Nat) : windowOn wc 0 = false := by
  simp [windowOn]

/-- The bridge is not driven by a window that is off. -/
theorem applyWindow_neutral_of_off (c : Params) {on : Bool} (h : Half) (s : State) (hon : on = false) :
    (applyWindow c on h s).bridge = .neutral := by
  subst hon
  simp [applyWindow_off]

theorem ModeConsistent.squareProcess {c : Params} {s : State} (hs : ModeConsistent s) :
    ModeConsistent (squareProcess c s) := by
  rcases squareProcess_cases c s with h | ⟨hm, h⟩ <;> rw [h]
  · exact { hs with process_square := nofun }
  · obtain ⟨hta, htap, hB, -, -⟩ := (modeConsistent_iff_of_square hm).1 hs
    refine (modeConsistent_iff_of_square (by simpa)).2 ⟨by simpa, by simpa, by simpa, fun hon => ?_, fun hd => ?_⟩
    · exact applyWindow_neutral_of_off c _ _ hon
    · exact applyWindow_neutral_of_off c _ _ (by rw [show s.dutyPercent = 0 by simpa using hd, windowOn_zero])

/-! ## What a step may write -/

/-- A step runs a command on a cleared receiver, or it leaves the parser and the transmit stream alone and changes the
interrupt enable for the host only. -/
theorem step_command_or_frame {s t : State} (h : step s = .next t) :
    (nextAction s = .service .rx ∧ exec (decodeByte s.pstate s.rxBuf) (clearRx (takeAction s)) = .next t) ∨
    (t.pstate = s.pstate ∧ t.dutyRaw = s.dutyRaw ∧ t.txLog = s.txLog ∧
      (t.gie = s.gie ∨ nextAction s = .hostSetGie t.gie)) := by
  rcases step_cases h with rfl | ⟨-, -, -, rfl⟩ | ⟨ha, -, -, he⟩ | hagent
  · exact .inr (by simp)
  · exact .inr (by simp)
  · exact .inl ⟨ha, by simpa using he⟩
  · right
    rcases hagent with ⟨ha, -, -, rfl⟩ | ⟨ha, -, -, rfl⟩ | ⟨ha, -, rfl⟩ | ⟨b, fe, pe, ha, rfl⟩ |
      ⟨ha, -, rfl⟩ | ⟨ha, -, rfl⟩ | ⟨v, ha, rfl⟩ | ⟨ha, rfl⟩ <;> simp [ha]

/-! ## The bridge log only grows -/

theorem bridgeLog_grows_teardown (c : Params) (s : State) : s.bridgeLog <+: (teardown c s).bridgeLog := by simp

theorem bridgeLog_grows_configureSine (c : Params) (same : Bool) (s : State) :
    s.bridgeLog <+: (configureSine c same s).bridgeLog := by
  unfold configureSine
  dsimp only
  split <;> simp

theorem bridgeLog_grows_configureSquare (c : Params) (same : Bool) (s : State) :
    s.bridgeLog <+: (configureSquare c same s).bridgeLog := by
  unfold configureSquare
  dsimp only
  split <;> simp

theorem bridgeLog_grows_enterWave (c : Params) (w : Bool) (s : State) :
    s.bridgeLog <+: (enterWave c w s).bridgeLog := by
  cases w <;> simp [enterWave_sine, enterWave_square]

theorem bridgeLog_grows_complete (c : Params) (w : Bool) (f : BitVec 3) (s : State) :
    s.bridgeLog <+: (complete c w f s).bridgeLog :=
  complete_rule c f s (P := fun t => s.bridgeLog <+: t.bridgeLog)
    (fun _ => bridgeLog_grows_configureSine c true (recordFrame c f s))
    ((bridgeLog_grows_enterWave c true s).trans (bridgeLog_grows_configureSine c false (recordFrame c f _)))
    (fun _ => bridgeLog_grows_configureSquare c true (recordFrame c f s))
    ((bridgeLog_grows_enterWave c false s).trans (bridgeLog_grows_configureSquare c false (recordFrame c f _))) w

theorem bridgeLog_grows_driveSample (c : Params) (x : Int) (s : State) :
    s.bridgeLog <+: (driveSample c x s).bridgeLog := by
  by_cases ha : s.amp = 0
  · simp [driveSample_silent c x ha]
  · by_cases hs : zeroCross x s.lastSign = s.lastSign
    · simp [driveSample_hold c x ha hs]
    · simp [driveSample_cross c x ha hs]

theorem bridgeLog_grows_sineTick (c : Params) (s : State) : s.bridgeLog <+: (sineTick c s).bridgeLog := by
  by_cases hm : s.mode = .sine
  · exact sineTick_sine c hm ▸ bridgeLog_grows_driveSample c _ (advancePhase c s)
  · rw [sineTick_other c hm]

theorem bridgeLog_grows_squareProcess (c : Params) (s : State) :
    s.bridgeLog <+: (squareProcess c s).bridgeLog := by
  rcases squareProcess_cases c s with h | ⟨-, h⟩
  · rw [h]
  · rw [h]
    cases windowOn s.wc s.dutyPercent <;> simp [applyWindow_on, applyWindow_off]

theorem step_bridgeLog_grows {s t : State} (h : step s = .next t) : s.bridgeLog <+: t.bridgeLog := by
  refine step_keeps_actuation (P := fun u => s.bridgeLog <+: u.bridgeLog) ?_
    (fun u hu => hu.trans (bridgeLog_grows_teardown node u))
    (fun w f u hu => hu.trans (bridgeLog_grows_complete node w f u))
    (fun u hu => hu.trans (bridgeLog_grows_sineTick node { u with taPending := false }))
    (fun u hu => by simpa using hu)
    (fun u hu => hu.trans (bridgeLog_grows_squareProcess node u))
    (fun _ _ hu => hu) (fun _ _ hu => hu) ⟨[], List.append_nil _⟩ h
  rintro u v ⟨-, -, -, -, -, -, -, hlog⟩ hu
  rwa [hlog]

/-! ## A latched duty is read by data byte 2 alone (R51) -/

/-- `s` with another latched duty. -/
def setDuty (d : BitVec 5) (s : State) : State := { s with dutyRaw := d }

@[simp] theorem setDuty_agenda (d : BitVec 5) (s : State) : (setDuty d s).agenda = s.agenda := rfl

theorem takeAction_setDuty (d : BitVec 5) (s : State) : takeAction (setDuty d s) = setDuty d (takeAction s) := by
  simp only [takeAction, setDuty_agenda]
  split <;> rfl

theorem rxArrive_setDuty (b : Byte) (fe pe : Bool) (d : BitVec 5) (s : State) :
    rxArrive b fe pe (setDuty d s) = setDuty d (rxArrive b fe pe s) := by
  unfold rxArrive
  rw [apply_ite (setDuty d)]
  rfl

theorem expireA_setDuty (d : BitVec 5) (s : State) : expireA (setDuty d s) = setDuty d (expireA s) := by
  unfold expireA
  rw [apply_ite (setDuty d)]
  rfl

theorem expireB_setDuty (d : BitVec 5) (s : State) : expireB (setDuty d s) = setDuty d (expireB s) := by
  unfold expireB
  rw [apply_ite (setDuty d)]
  rfl

theorem squareTick_setDuty (d : BitVec 5) (s : State) : squareTick (setDuty d s) = setDuty d (squareTick s) := by
  unfold squareTick
  rw [apply_ite (setDuty d)]
  rfl

theorem routeOnCrossing_setDuty (sg : Sign) (d : BitVec 5) (s : State) :
    routeOnCrossing sg (setDuty d s) = setDuty d (routeOnCrossing sg s) := by
  unfold routeOnCrossing
  rw [apply_ite (setDuty d)]
  rfl

theorem driveSample_setDuty (c : Params) (x : Int) (d : BitVec 5) (s : State) :
    driveSample c x (setDuty d s) = setDuty d (driveSample c x s) := by
  by_cases ha : s.amp = 0
  · rw [driveSample_silent c x ha, driveSample_silent c x (s := setDuty d s) ha]
    rfl
  · by_cases hs : zeroCross x s.lastSign = s.lastSign
    · rw [driveSample_hold c x ha hs, driveSample_hold c x (s := setDuty d s) ha hs]
      rfl
    · rw [driveSample_cross c x ha hs, driveSample_cross c x (s := setDuty d s) ha hs]
      rfl

theorem sineTick_setDuty (c : Params) (d : BitVec 5) (s : State) :
    sineTick c (setDuty d s) = setDuty d (sineTick c s) := by
  by_cases hm : s.mode = .sine
  · rw [sineTick_sine c hm, sineTick_sine c (s := setDuty d s) hm]
    exact driveSample_setDuty c _ d (advancePhase c s)
  · rw [sineTick_other c hm, sineTick_other c (s := setDuty d s) hm]

theorem applyWindow_setDuty (c : Params) (on : Bool) (h : Half) (d : BitVec 5) (s : State) :
    applyWindow c on h (setDuty d s) = setDuty d (applyWindow c on h s) := by
  cases on <;> rfl

theorem squareProcess_setDuty (c : Params) (d : BitVec 5) (s : State) :
    squareProcess c (setDuty d s) = setDuty d (squareProcess c s) := by
  by_cases hm : s.mode = .square
  · cases ha : alreadyApplied (windowOn s.wc s.dutyPercent) (halfOf s.wc) s with
    | true => rw [squareProcess_applied c hm ha, squareProcess_applied c (s := setDuty d s) hm ha]; rfl
    | false =>
      rw [squareProcess_apply c hm ha, squareProcess_apply c (s := setDuty d s) hm ha]
      exact applyWindow_setDuty c _ _ d { s with squarePending := false }
  · rw [squareProcess_other c hm, squareProcess_other c (s := setDuty d s) hm]; rfl

/-- STOP forgets the latched duty. -/
theorem teardown_setDuty (c : Params) (d : BitVec 5) (s : State) : teardown c (setDuty d s) = teardown c s := rfl

theorem serviceable_setDuty (src : Source) (d : BitVec 5) (s : State) :
    serviceable src (setDuty d s) = serviceable src s := by
  cases src <;> rfl

/-- No command but DATA2 reads the latched duty, and DATA1, which alone leads to WAIT_DATA2, overwrites it. -/
theorem exec_setDuty {i : Instr} {s t : State} (d : BitVec 5) (hi : i.readIn s.pstate = true)
    (hp : s.pstate ≠ .waitData2) (h : exec i s = .next t) :
    ∃ e, exec i (setDuty d s) = .next (setDuty e t) ∧ (t.pstate = .waitData2 → e = t.dutyRaw) := by
  cases i with
  | addrFwd addr start => cases h; exact ⟨d, rfl, nofun⟩
  | stop => cases h; exact ⟨(teardown node s).dutyRaw, by rw [exec_stop, teardown_setDuty]; rfl, nofun⟩
  | start => cases h; exact ⟨d, rfl, nofun⟩
  | dataPass byte => cases h; exact ⟨d, rfl, fun hw => absurd hw hp⟩
  | data1 reserved duty => cases h; exact ⟨duty, rfl, fun _ => rfl⟩
  | data2 reserved wave freq => exact absurd (by simpa [Instr.readIn] using hi) hp

theorem rxHandler_setDuty {s t : State} (d : BitVec 5) (hp : s.pstate ≠ .waitData2) (h : rxHandler s = .next t) :
    ∃ e, rxHandler (setDuty d s) = .next (setDuty e t) ∧ (t.pstate = .waitData2 → e = t.dutyRaw) := by
  by_cases hv : rxVerdict node.parityEnabled s = .accepted
  · rw [rxHandler_accepted hv] at h
    rw [rxHandler_accepted (s := setDuty d s) hv]
    exact exec_setDuty (s := clearRx s) d (decodeByte_readIn s.pstate s.rxBuf) hp h
  · rw [rxHandler_rejected hv] at h
    rw [rxHandler_rejected (s := setDuty d s) hv]
    cases h
    exact ⟨d, rfl, fun hw => absurd hw hp⟩

/-- Every move outside WAIT_DATA2 takes states that differ in the latched duty to such states. -/
theorem perform_setDuty {a : Action} {s t : State} (d : BitVec 5) (hp : s.pstate ≠ .waitData2)
    (h : perform a s = .next t) :
    ∃ e, perform a (setDuty d s) = .next (setDuty e t) ∧ (t.pstate = .waitData2 → e = t.dutyRaw) := by
  cases a with
  | service src =>
    by_cases hs : serviceable src s = true
    · rw [perform_service hs] at h
      rw [perform_service (s := setDuty d s) ((serviceable_setDuty src d s).trans hs)]
      cases src with
      | rx => exact rxHandler_setDuty d hp h
      | timerA =>
        cases h
        exact ⟨d, congrArg _ (sineTick_setDuty node d { s with taPending := false }), by simp [enterHandler, hp]⟩
      | timerB =>
        cases h
        exact ⟨d, congrArg _ (squareTick_setDuty d { s with tbPending := false }), by simp [enterHandler, hp]⟩
    · rw [perform_service_disabled hs] at h
      cases h
      exact ⟨d, perform_service_disabled (by rwa [serviceable_setDuty]), fun hw => absurd hw hp⟩
  | process =>
    by_cases hq : s.squarePending = true
    · rw [perform_process hq] at h
      cases h
      rw [perform_process (s := setDuty d s) hq, squareProcess_setDuty]
      exact ⟨d, rfl, by simp [hp]⟩
    · rw [perform_process_disabled hq] at h
      cases h
      exact ⟨d, perform_process_disabled hq, fun hw => absurd hw hp⟩
  | rxArrive b fe pe => cases h; exact ⟨d, congrArg _ (rxArrive_setDuty b fe pe d s), by simp [hp]⟩
  | expireA => cases h; exact ⟨d, congrArg _ (expireA_setDuty d s), by simp [hp]⟩
  | expireB => cases h; exact ⟨d, congrArg _ (expireB_setDuty d s), by simp [hp]⟩
  | hostSetGie v => cases h; exact ⟨d, rfl, by simp [hp]⟩
  | hostAckColor => cases h; exact ⟨d, rfl, by simp [hp]⟩

/-! ## The statements -/

/-- Settles O28: outside WAIT_DATA2 the latched duty is carried along or overwritten by every move, never read. -/
theorem abortedDutyUnread : Obligations.AbortedDutyUnread := by
  intro s t d hp h
  obtain ⟨e, he, hread⟩ := perform_setDuty d (by simpa using hp) h
  exact ⟨e, (congrArg (perform (nextAction s)) (takeAction_setDuty d s)).trans he, hread⟩

/-- Settles O43: the mode invariant by the rule for actuation invariants. -/
theorem modeExclusionKept : Obligations.ModeExclusionKept := fun _ _ hs h =>
  step_keeps_actuation .congr (fun s _ => modeConsistent_teardown node s) (fun w f _ hs => hs.complete w f)
    (fun _ hs => hs.clearTimerA.sineTick) (fun _ hs => hs.clearTimerB.squareTick) (fun _ hs => hs.squareProcess)
    (fun _ hen hs => { hs with requestA_enabled := fun _ => hen })
    (fun _ hen hs => { hs with requestB_enabled := fun _ => hen }) hs h

/-- Settles O44: the ranges by the rule for actuation invariants. -/
theorem rangesKept : Obligations.RangesKept := fun _ _ hs h =>
  step_keeps_actuation (P := InRange node)
    (fun ⟨⟨_, hd, _, ha⟩, ⟨hp, _⟩, ⟨hw, _⟩, _, _, _, hb, _⟩ hs => hs.congr hd ha hp hw hb)
    (fun s _ => inRange_teardown node s) (fun w f _ hs => hs.complete w f)
    (fun _ hs => InRange.sineTick { hs with }) (fun _ hs => InRange.squareTick { hs with })
    (fun _ hs => hs.squareProcess) (fun _ _ hs => { hs with }) (fun _ _ hs => { hs with }) hs h

/-- Settles O32: no command and no other agent's move writes `gie`. -/
theorem onlyHostWritesGie : Obligations.OnlyHostWritesGie := by
  intro s t h hne
  rcases step_command_or_frame h with ⟨-, he⟩ | ⟨-, -, -, hgie⟩
  · obtain ⟨-, hgie, -⟩ := exec_surroundings he
    exact absurd (hgie.trans (by simp)) hne
  · exact hgie.resolve_left hne

/-- Settles O35: only a command transmits, one byte at most, and every bridge write appends. -/
theorem outputStreamsOnlyGrow : Obligations.OutputStreamsOnlyGrow := by
  intro s t h
  refine ⟨?_, (step_bridgeLog_grows h).imp fun _ => Eq.symm⟩
  rcases step_command_or_frame h with ⟨ha, he⟩ | ⟨-, -, htx, -⟩
  · obtain ⟨bytes, htx, hlen⟩ := exec_txLog he
    exact ⟨bytes, by simpa using htx, hlen, fun _ => ha⟩
  · exact ⟨[], by simpa using htx, by simp, by simp⟩

/-- Settles O36: a step without a command leaves the parser fields alone. -/
theorem parserStateWrittenByReceiveOnly : Obligations.ParserStateWrittenByReceiveOnly := by
  intro s t h hne
  rcases step_command_or_frame h with ⟨ha, -⟩ | ⟨hp, hd, -⟩
  · exact absurd ha hne
  · exact ⟨hp, hd⟩

/-- Settles O45: the handler clears the flags with the request, and an arrival leaves the receiver full. -/
theorem emptyReceiverHasNoError : Obligations.EmptyReceiverHasNoError := by
  intro s t hs h
  refine step_keeps (P := ReceiverConsistent) (fun s => ?take) (fun s _ _ => ⟨rfl, rfl, rfl⟩)
    (fun i s t hs he => ?command) (fun s _ => ?sine) (fun s _ => ?square) (fun s _ => ?process)
    (fun b fe pe s _ hp => ?arrive) (fun _ _ => id) (fun _ _ => id) (fun _ _ => id) (fun _ => id) hs h
  case command =>
    obtain ⟨⟨hp, -, hf, ho, hq⟩, -⟩ := exec_surroundings he
    simpa [ReceiverConsistent, hp, hf, ho, hq] using hs
  case arrive => exact absurd ((rxArrive_rxPending b fe pe s).symm.trans hp) nofun
  all_goals simp [ReceiverConsistent]

/-- Settles O1: the reset record, field by field. -/
theorem resetLeavesS0 : Obligations.ResetLeavesS0 := by
  simp [Obligations.ResetLeavesS0, State.reset, pwmCompare]

/-- Settles O47: the reset state is Idle, silent, empty and within every range. -/
theorem resetMeetsInvariants : Obligations.ResetMeetsInvariants :=
  ⟨⟨by decide, Nat.zero_le _, node.sineLen_pos, by decide, Nat.zero_le _⟩,
    (modeConsistent_iff_of_idle rfl).2 (by decide), ⟨rfl, rfl⟩, ⟨nofun, nofun, nofun⟩, fun _ => ⟨rfl, rfl, rfl⟩⟩

end Sys2Proof.Machine

/-! PROOFS. The serial line (20_memory.md R62, R72): what a ready node does with a received byte, and how a daisy chain
passes a frame on. -/

namespace Sys2Proof.Machine

open Sys2Proof.Config

/-! ## One received byte -/

/-- A byte that arrives at a ready node is accepted: its command runs on the cleared receiver. -/
theorem receive_of_ready (b : Byte) {s : State} (hs : ReadyToReceive s) :
    receive b s = exec (decodeByte s.pstate b) (clearRx (rxArrive b false false s)) := by
  obtain ⟨hgie, hpending, hoerr⟩ := hs
  have hserve : serviceable .rx (rxArrive b false false s) = true := by
    simp [serviceable, requested, rxArrive_rxPending, hgie]
  have haccept : rxVerdict node.parityEnabled (rxArrive b false false s) = .accepted := by
    simp [rxVerdict, rxArrive, hpending, hoerr]
  have hbuf : (rxArrive b false false s).rxBuf = b := by simp [rxArrive, hpending]
  calc receive b s
    _ = rxHandler (rxArrive b false false s) := perform_service hserve
    _ = _ := by rw [rxHandler_accepted haccept, rxArrive_pstate, hbuf]

/-- The command of a received byte leaves a ready node ready for the next one. -/
theorem readyToReceive_of_exec {b : Byte} {i : Instr} {s t : State} (hs : ReadyToReceive s)
    (h : exec i (clearRx (rxArrive b false false s)) = .next t) : ReadyToReceive t := by
  obtain ⟨⟨hpending, -, -, hoerr, -⟩, hgie, -⟩ := exec_surroundings h
  exact ⟨hgie.trans (by simpa using hs.1), hpending, hoerr⟩

/-! ## Forwarding -/

/-- A node went from `s` to `t` by transmitting `out`, with its actuation and color untouched, and `t` is in IDLE and
ready for the next byte. -/
structure Forwards (out : List Byte) (s t : State) : Prop where
  txLog_eq : t.txLog = s.txLog ++ out
  actuation : SameActuation s t
  color : SameColor s t
  idle : t.pstate = .idle
  ready : ReadyToReceive t

theorem Forwards.trans {out out' : List Byte} {s t u : State} (h : Forwards out s t) (h' : Forwards out' t u) :
    Forwards (out ++ out') s u where
  txLog_eq := by rw [h'.txLog_eq, h.txLog_eq, List.append_assoc]
  actuation := by and_intros <;> simp [h.actuation, h'.actuation]
  color := ⟨h'.color.1.trans h.color.1, h'.color.2.trans h.color.2⟩
  idle := h'.idle
  ready := h'.ready

theorem Forwards.transmitted_eq {out : List Byte} {s t : State} (h : Forwards out s t) : transmitted s t = out := by
  rw [transmitted, h.txLog_eq, List.drop_left]

/-- An address byte for another node is forwarded with the address less one, in any parser state (R110). -/
theorem receive_address_forwards {a : BitVec 6} (start : Bool) {s : State} (ha : a ≠ 0) (hs : ReadyToReceive s) :
    ∃ t, receive (addressByte a start) s = .next t ∧ Forwards [addressByte (a - 1) start] s t := by
  have hdecode : decodeByte s.pstate (addressByte a start) = .addrFwd a start := by
    rw [decodeByte_address _ (markerOf_addressByte a start), addrOf_addressByte, if_pos ha, startOf_addressByte]
  have hexec := exec_addrFwd a start (clearRx (rxArrive (addressByte a start) false false s))
  refine ⟨_, by rw [receive_of_ready _ hs, hdecode, hexec], ?_⟩
  exact { txLog_eq := by simp, actuation := by and_intros <;> simp, color := by simp [SameColor],
          idle := rfl, ready := readyToReceive_of_exec hs hexec }

/-- A data byte is forwarded verbatim by a node in IDLE (R113). -/
theorem receive_data_forwards {b : Byte} {s : State} (hb : b.getLsbD 7 = true) (hidle : s.pstate = .idle)
    (hs : ReadyToReceive s) : ∃ t, receive b s = .next t ∧ Forwards [b] s t := by
  have hdecode : decodeByte s.pstate b = .dataPass b := by rw [hidle, decodeByte_data _ hb]
  have hexec := exec_dataPass b (clearRx (rxArrive b false false s))
  refine ⟨_, by rw [receive_of_ready _ hs, hdecode, hexec], ?_⟩
  exact { txLog_eq := by simp, actuation := by and_intros <;> simp, color := by simp [SameColor],
          idle := by simpa using hidle, ready := readyToReceive_of_exec hs hexec }

/-- A whole frame for another node: the address byte returns the parser to IDLE, so both data bytes pass. -/
theorem receiveAll_frame_forwards {a : BitVec 6} (start : Bool) {d1 d2 : Byte} {s : State} (ha : a ≠ 0)
    (h1 : d1.getLsbD 7 = true) (h2 : d2.getLsbD 7 = true) (hs : ReadyToReceive s) :
    ∃ t, receiveAll [addressByte a start, d1, d2] s = .next t ∧
      Forwards [addressByte (a - 1) start, d1, d2] s t := by
  obtain ⟨t, hrt, ht⟩ := receive_address_forwards start ha hs
  obtain ⟨u, hru, hu⟩ := receive_data_forwards h1 ht.idle ht.ready
  obtain ⟨v, hrv, hv⟩ := receive_data_forwards h2 hu.idle hu.ready
  exact ⟨v, by simp only [receiveAll, hrt, hru, hrv], (ht.trans hu).trans hv⟩

/-! ## The daisy chain -/

/-- The first node of a chain takes the stream and the rest of the chain what it forwards. -/
theorem feedChain_cons {s t : State} {nodes nodes' : List State} {bytes mid out : List Byte}
    (hrun : receiveAll bytes s = .next t) (hfwd : Forwards mid s t) (hrest : feedChain nodes mid = some (nodes', out)) :
    feedChain (s :: nodes) bytes = some (t :: nodes', out) := by
  simp only [feedChain, hrun, hfwd.transmitted_eq, hrest]

/-- Settles O27, by induction on the chain: the first node forwards the frame with one hop less. -/
theorem frameReachesItsHop : Obligations.FrameReachesItsHop := by
  intro nodes a d1 d2 hready hlen h1 h2
  induction nodes generalizing a with
  | nil => exact ⟨[], by simp [feedChain], .nil⟩
  | cons s nodes ih =>
    rw [List.length_cons] at hlen
    obtain ⟨hs, hnodes⟩ := List.forall_mem_cons.1 hready
    have ha : a ≠ 0 := by rintro rfl; simp at hlen
    have hhops : nodes.length ≤ (a - 1).toNat := by bv_omega
    have haddr : a - 1 - BitVec.ofNat 6 nodes.length = a - BitVec.ofNat 6 (s :: nodes).length := by
      rw [List.length_cons]; bv_omega
    obtain ⟨t, hrun, hfwd⟩ := receiveAll_frame_forwards true ha h1 h2 hs
    obtain ⟨nodes', hrest, hsame⟩ := ih (a - 1) hnodes hhops
    exact ⟨t :: nodes', haddr ▸ feedChain_cons hrun hfwd hrest,
      .cons ⟨hfwd.actuation, hfwd.color, hfwd.idle⟩ hsame⟩

end Sys2Proof.Machine

/-! PROOFS. The encoding (30_encoding.md): decoder and encoder are inverse to each other on the well-formed commands, the
opcode table agrees with the decoder, and reserved bits are read by no meaning. -/

namespace Sys2Proof.Machine

/-! ## Fields put together again (R81 to R83) -/

theorem addressByte_fields : ∀ b : Byte, b.getLsbD 7 = false → addressByte (addrOf b) (startOf b) = b := by decide

theorem data1Byte_fields : ∀ b : Byte, b.getLsbD 7 = true → data1Byte (reserved1Of b) (dutyOf b) = b := by decide

theorem data2Byte_fields :
    ∀ b : Byte, b.getLsbD 7 = true → data2Byte (reserved2Of b) (waveOf b) (freqOf b) = b := by decide

/-! ## Decoder and encoder (R86, R89) -/

/-- The byte of a well-formed command decodes to it wherever the command is read. -/
theorem decodeByte_encodeByte {p : PState} {i : Instr} (hwf : i.wellFormed = true) (hread : i.readIn p = true) :
    decodeByte p (encodeByte i) = i := by
  cases i with
  | addrFwd a start =>
    have ha : a ≠ 0 := by simpa [Instr.wellFormed] using hwf
    rw [encodeByte, decodeByte_address p (markerOf_addressByte a start), addrOf_addressByte, if_pos ha,
      startOf_addressByte]
  | stop | start => simp [encodeByte, decodeByte]
  | dataPass b =>
    obtain rfl : p = .idle := by simpa [Instr.readIn] using hread
    exact decodeByte_data _ hwf
  | data1 r d =>
    obtain rfl : p = .waitData1 := by simpa [Instr.readIn] using hread
    simp [encodeByte, decodeByte]
  | data2 r w f =>
    obtain rfl : p = .waitData2 := by simpa [Instr.readIn] using hread
    simp [encodeByte, decodeByte]

/-- Every byte decodes to a well-formed command, whose byte it is. -/
theorem decodeByte_wellFormed_encodeByte (p : PState) (b : Byte) :
    (decodeByte p b).wellFormed = true ∧ encodeByte (decodeByte p b) = b := by
  cases hb : b.getLsbD 7 with
  | true =>
    rw [decodeByte_data p hb]
    cases p with
    | idle => exact ⟨hb, rfl⟩
    | waitData1 => exact ⟨rfl, data1Byte_fields b hb⟩
    | waitData2 => exact ⟨rfl, data2Byte_fields b hb⟩
  | false =>
    have hfields := addressByte_fields b hb
    rw [decodeByte_address p hb]
    split_ifs with ha hs
    · exact ⟨by simpa [Instr.wellFormed] using ha, hfields⟩
    · rw [not_not.1 ha, hs] at hfields
      exact ⟨rfl, hfields⟩
    · rw [not_not.1 ha, Bool.eq_false_iff.2 hs] at hfields
      exact ⟨rfl, hfields⟩

/-- Settles O3: a well-formed command's byte decodes to it, and the stream is one byte shorter. -/
theorem decodeInvertsEncode : Obligations.DecodeInvertsEncode := by
  intro p i rest hwf hread
  calc decode p (encode i ++ rest)
    _ = .ok (decodeByte p (encodeByte i), rest) := rfl
    _ = .ok (i, rest) := by rw [decodeByte_encodeByte hwf hread]

/-- Settles O4: the fields of a byte, put together again, are the byte. -/
theorem encodeInvertsDecode : Obligations.EncodeInvertsDecode := by
  intro p b
  obtain ⟨hwf, hbyte⟩ := decodeByte_wellFormed_encodeByte p b
  exact ⟨congrArg ([·]) hbyte, hwf, decodeByte_readIn p b⟩

/-- Settles O6: the bytes are evaluated, the address bytes once for each parser state. -/
theorem decodesWorkedBytes : Obligations.DecodesWorkedBytes := by
  refine ⟨fun p => ?_, by decide⟩
  cases p <;> decide

/-! ## The opcode table (R80, R86) -/

/-- Settles O7: the marker bit is the first thing the decoder tests, and each class has its own three commands. -/
theorem markerBitDecidesClass : Obligations.MarkerBitDecidesClass := by
  intro p b
  cases hb : b.getLsbD 7 with
  | true =>
    rw [decodeByte_data p hb]
    cases p <;> simp [mnemonicOf]
  | false =>
    rw [decodeByte_address p hb]
    split_ifs <;> simp [mnemonicOf]

/-- The address bytes with address 0 are those of STOP and START. -/
theorem eq_zero_or_one_of_addrOf_eq_zero : ∀ b : Byte, b.getLsbD 7 = false → addrOf b = 0 → b = 0 ∨ b = 1 := by decide

/-- The mask of a whole class keeps the marker bit alone. -/
theorem and_marker : ∀ b : Byte, b &&& 0x80#8 = if b.getLsbD 7 then 0x80#8 else 0#8 := by decide

/-- The mask of STOP and START keeps every bit. -/
theorem and_allBits (b : Byte) : b &&& 0xFF#8 = b := BitVec.and_allOnes

/-- The condition of the table's row ADDR_FWD is a nonzero address. -/
theorem addressBits_eq_zero_iff : ∀ b : Byte, b >>> 1 &&& 0x3F#8 = 0#8 ↔ addrOf b = 0 := by decide

/-- Settles O5, by the class of the byte: the data rows differ by the parser state, the address rows by the address and
the start bit. -/
theorem commandMapSelectsOneRow : Obligations.CommandMapSelectsOneRow := by
  intro p b
  have hmask := and_marker b
  cases hb : b.getLsbD 7 with
  | true =>
    rw [hb] at hmask
    have h0 : b ≠ 0#8 := by rintro rfl; simp at hb
    have h1 : b ≠ 1#8 := by rintro rfl; simp at hb
    rw [decodeByte_data p hb]
    cases p <;> simp [opcodeTable, TableRow.selects, hmask, and_allBits, h0, h1, mnemonicOf]
  | false =>
    rw [hb] at hmask
    by_cases ha : addrOf b = 0
    · obtain rfl | rfl := eq_zero_or_one_of_addrOf_eq_zero b hb ha <;> cases p <;> decide
    · have h0 : b ≠ 0#8 := by rintro rfl; exact ha rfl
      have h1 : b ≠ 1#8 := by rintro rfl; exact ha rfl
      have haddr := (addressBits_eq_zero_iff b).not.2 ha
      rw [decodeByte_address p hb, if_pos ha]
      cases p <;> simp [opcodeTable, TableRow.selects, hmask, and_allBits, haddr, h0, h1, mnemonicOf]

/-! ## Reserved bits (R88) -/

theorem dutyOf_and_mask : ∀ b : Byte, dutyOf (b &&& 0x1F) = dutyOf b := by decide

theorem waveOf_and_mask : ∀ b : Byte, waveOf (b &&& 0x0F) = waveOf b := by decide

theorem freqOf_and_mask : ∀ b : Byte, freqOf (b &&& 0x0F) = freqOf b := by decide

/-- Settles O24: DATA1 reads the duty alone, DATA2 the wave bit and the frequency, and the masks keep these fields. -/
theorem reservedBitsHaveNoEffect : Obligations.ReservedBitsHaveNoEffect := by
  constructor
  · intro b b' s hs hb hb' h
    have hduty : dutyOf b = dutyOf b' := by rw [← dutyOf_and_mask, h, dutyOf_and_mask]
    simp [parse, hs, decodeByte_data, hb, hb', hduty]
  · intro b b' s hs hb hb' h
    have hwave : waveOf b = waveOf b' := by rw [← waveOf_and_mask, h, waveOf_and_mask]
    have hfreq : freqOf b = freqOf b' := by rw [← freqOf_and_mask, h, freqOf_and_mask]
    simp [parse, hs, decodeByte_data, hb, hb', hwave, hfreq]

end Sys2Proof.Machine

/-! PROOFS. The frame parser (40_frame_parser.md): the receive handler and the step that runs it, what each of the six
commands writes and leaves, what a node transmits, and a frame that is sent twice. -/

namespace Sys2Proof.Machine

open Sys2Proof.Config

/-! ## The receive handler (R100 to R104) -/

/-- The held byte is parsed exactly where no error counts (R101 to R103). -/
theorem rxVerdict_accepted_iff {parity : Bool} {s : State} :
    rxVerdict parity s = .accepted ↔ s.rxOerr = false ∧ s.rxFerr = false ∧ (s.rxPerr = false ∨ parity = false) := by
  unfold rxVerdict
  cases s.rxOerr <;> cases s.rxFerr <;> cases s.rxPerr <;> cases parity <;> decide

/-- Serving the receive source is running its handler. -/
theorem perform_service_rx {s : State} (hgie : s.gie = true) (hpending : s.rxPending = true) :
    perform (.service .rx) s = rxHandler s :=
  perform_service (by simp [serviceable, requested, hgie, hpending])

/-- A step that serves the receive source runs the handler after the agenda has moved on. -/
theorem step_service_rx {s : State} (ha : nextAction s = .service .rx) (hgie : s.gie = true)
    (hpending : s.rxPending = true) : step s = rxHandler (takeAction s) := by
  rw [step, ha]
  exact perform_service_rx (by simpa) (by simpa)

/-- Settles O13: the handler answers the state with the receive flags cleared. -/
theorem receiveErrorContained : Obligations.ReceiveErrorContained := by
  intro s ha hgie hpending herror
  have hreject : rxVerdict node.parityEnabled (takeAction s) ≠ .accepted := by
    rw [Ne, rxVerdict_accepted_iff]
    rintro ⟨ho, hf, hp⟩
    simp_all
  exact ⟨clearRx (takeAction s), by rw [step_service_rx ha hgie hpending, rxHandler_rejected hreject],
    by and_intros <;> simp [SameTransmit, SameGie]⟩

/-- Settles O8: without an error that counts the handler runs the decoded command. -/
theorem stepRunsDecodedCommand : Obligations.StepRunsDecodedCommand := by
  intro s i ha hgie hpending ho hf hp hdecode
  obtain rfl : decodeByte s.pstate s.rxBuf = i := by simpa [decode] using hdecode
  have haccept : rxVerdict node.parityEnabled (takeAction s) = .accepted :=
    rxVerdict_accepted_iff.2 (by simpa using ⟨ho, hf, hp⟩)
  refine ⟨(decodeByte_wellFormed_encodeByte s.pstate s.rxBuf).1, ?_⟩
  rw [step_service_rx ha hgie hpending, rxHandler_accepted haccept, takeAction_pstate, takeAction_rxBuf]
  rfl

/-- Settles O9: the placed byte is held without error and its service is the next move. -/
theorem placedWordRunsNext : Obligations.PlacedWordRunsNext := by
  intro s w hw
  have hbyte : w % 2 ^ 8 = w := Nat.mod_eq_of_lt hw
  have haccept : rxVerdict node.parityEnabled (takeAction (s.withFetchWord 8 w)) = .accepted := rfl
  rw [step_service_rx rfl rfl rfl, rxHandler_accepted haccept]
  simp only [State.withFetchWord, takeAction, clearRx, hbyte]

/-- Settles O12: the three tests are the negation of acceptance, one after the other. -/
theorem receiveHandlerTestsErrors : Obligations.ReceiveHandlerTestsErrors := by
  refine ⟨fun s => perform_service_rx, fun s => ?_⟩
  intro cleared
  have hreject : ¬(s.rxOerr = false ∧ s.rxFerr = false ∧ (s.rxPerr = false ∨ node.parityEnabled = false)) →
      rxHandler s = .next cleared := fun h => rxHandler_rejected (mt rxVerdict_accepted_iff.1 h)
  split_ifs with ho hf hp
  · exact hreject (by simp [ho])
  · exact hreject (by simp [hf])
  · exact hreject (by simp [hp])
  · exact rxHandler_accepted (rxVerdict_accepted_iff.2 (by simp_all [or_comm, imp_iff_not_or]))

/-! ## The commands that keep the engine (R110, R112 to R114) -/

/-- No command but STOP and DATA2 touches the engine or the color. -/
theorem exec_keeps_actuation {i : Instr} {s t : State} (h : exec i s = .next t) (hstop : i ≠ .stop)
    (hdata2 : ∀ r w f, i ≠ .data2 r w f) : SameActuation s t ∧ SameColor s t := by
  cases i with
  | stop => exact absurd rfl hstop
  | data2 r w f => exact absurd rfl (hdata2 r w f)
  | addrFwd | start | dataPass | data1 => cases h; and_intros <;> rfl

/-- The forwarded address byte is the pair of the address less one and the start bit (R110). -/
theorem addressByte_pred :
    ∀ (a : BitVec 6) (start : Bool), a ≠ 0 →
      addressByte (a - 1) start = BitVec.ofNat 8 (((a.toNat - 1) <<< 1) ||| start.toNat) := by decide

/-- Settles O14: ADDR_FWD transmits the decremented address and returns the parser to IDLE. -/
theorem addrFwdForwardsDecremented : Obligations.AddrFwdForwardsDecremented := by
  constructor
  · intro p b hb ha
    exact (decodeByte_address p hb).trans (if_pos ha)
  · intro a start s ha
    have hexec := exec_addrFwd a start s
    obtain ⟨hact, hcolor⟩ := exec_keeps_actuation hexec nofun nofun
    exact ⟨_, hexec, congrArg (s.txLog ++ [·]) (addressByte_pred a start ha), rfl, rfl, hact, hcolor,
      exec_surroundings hexec⟩

/-- Settles O17: START moves the parser to WAIT_DATA1. -/
theorem startOpensFrame : Obligations.StartOpensFrame := by
  constructor
  · exact fun p => decodeByte_address p rfl
  · intro s
    have hexec := exec_start s
    obtain ⟨hact, hcolor⟩ := exec_keeps_actuation hexec nofun nofun
    exact ⟨_, hexec, rfl, rfl, hact, rfl, hcolor, exec_surroundings hexec⟩

/-- Settles O18: DATA_PASS transmits its byte. -/
theorem dataPassForwardsVerbatim : Obligations.DataPassForwardsVerbatim := by
  constructor
  · exact fun b => decodeByte_data .idle
  · intro b s
    have hexec := exec_dataPass b s
    obtain ⟨hact, hcolor⟩ := exec_keeps_actuation hexec nofun nofun
    exact ⟨_, hexec, rfl, ⟨rfl, rfl⟩, hact, hcolor, exec_surroundings hexec⟩

theorem dutyOf_toNat : ∀ b : Byte, (dutyOf b).toNat = (b &&& 0x1F).toNat := by decide

/-- Settles O19: DATA1 latches the duty and moves the parser to WAIT_DATA2. -/
theorem data1LatchesDuty : Obligations.Data1LatchesDuty := by
  constructor
  · exact fun b hb => ⟨reserved1Of b, dutyOf b, decodeByte_data .waitData1 hb, dutyOf_toNat b⟩
  · intro r d s
    have hexec := exec_data1 r d s
    obtain ⟨hact, hcolor⟩ := exec_keeps_actuation hexec nofun nofun
    exact ⟨_, hexec, rfl, rfl, hact, rfl, hcolor, exec_surroundings hexec⟩

/-! ## STOP (R111, R167) -/

/-- What STOP leaves of `s`: the reset state but for the receiver, `gie`, the timer values, the streams and the model's
own fields, with one `Neutral` issued, and with the color where STOP does not refresh it (R167). -/
def stopped (c : Params) (s : State) : State :=
  { State.reset with
    rxPending := s.rxPending, rxBuf := s.rxBuf, rxFerr := s.rxFerr, rxOerr := s.rxOerr, rxPerr := s.rxPerr,
    taReload := s.taReload, tbPeriod := s.tbPeriod, gie := s.gie, txLog := s.txLog,
    bridgeLog := s.bridgeLog ++ [.neutral], ackLog := s.ackLog, agenda := s.agenda, draws := s.draws,
    colorIndex := if c.stopRefreshesColor then 0 else s.colorIndex,
    colorRefresh := if c.stopRefreshesColor then true else s.colorRefresh }

/-- Field by field, by what `teardown` leaves in each. -/
theorem exec_stop_eq_stopped (s : State) : exec .stop s = .next (stopped node s) := by
  simp [stopped, State.reset]

/-- Settles O15: the fields of the state that STOP leaves. -/
theorem stopTearsDown : Obligations.StopTearsDown := by
  intro s
  have hsilent : silent (stopped node s) = true := rfl
  refine ⟨stopped node s, exec_stop_eq_stopped s, by and_intros <;> rfl, by and_intros <;> rfl, by and_intros <;> rfl,
    by and_intros <;> rfl, ⟨rfl, rfl⟩, by and_intros <;> rfl, ⟨hsilent, differentialDrive_of_silent hsilent⟩, ?color,
    rfl, exec_surroundings (exec_stop_eq_stopped s)⟩
  split <;> simp_all [stopped, SameColor]

/-- Settles O16: STOP reads the fields that are assumed equal and no other. -/
theorem stopForgetsPriorState : Obligations.StopForgetsPriorState := by
  rintro s u ⟨⟨hp, hb, hf, ho, hq⟩, hgie, hack, hagenda, hdraws⟩ htx ⟨hci, hcr⟩ hlog hta htb
  rw [exec_stop_eq_stopped, exec_stop_eq_stopped]
  simp only [stopped, *]

/-! ## DATA2 (R115, R162 to R168) -/

@[simp] theorem configureSine_amp (c : Params) (same : Bool) (s : State) :
    (configureSine c same s).amp = amplitude c s.dutyPercent := by
  unfold configureSine; dsimp only; split <;> simp
@[simp] theorem configureSine_taReload (c : Params) (same : Bool) (s : State) :
    (configureSine c same s).taReload = sineReloadAt c s.freqIndex := by
  unfold configureSine; dsimp only; split <;> simp
@[simp] theorem configureSquare_tbEn (c : Params) (same : Bool) (s : State) :
    (configureSquare c same s).tbEn = true := by
  unfold configureSquare; dsimp only; split <;> simp
@[simp] theorem configureSquare_tbPeriod (c : Params) (same : Bool) (s : State) :
    (configureSquare c same s).tbPeriod = squarePeriodAt c s.freqIndex := by
  unfold configureSquare; dsimp only; split <;> simp
@[simp] theorem configureSquare_squarePending (c : Params) (same : Bool) (s : State) :
    (configureSquare c same s).squarePending = true := by
  unfold configureSquare; dsimp only; split <;> simp

/-- Settles O20: the old mode is left, and Sine is configured from its start. -/
theorem data2EntersSine : Obligations.Data2EntersSine := by
  intro r f s hm
  have hexec := exec_data2 r true f s
  have hsur := exec_surroundings hexec
  rw [complete_sine_new node f hm, configureSine_new, enterWave_sine] at hexec hsur
  refine ⟨_, hexec, ?_, ?_, ?_, ?_, ?_, ?_, ?_, ?_, ?_, hsur⟩ <;> and_intros <;> simp [sineReloadAt]

/-- Settles O22: the old mode is left, and Square is configured from its start. -/
theorem data2EntersSquare : Obligations.Data2EntersSquare := by
  intro r f s hm
  have hexec := exec_data2 r false f s
  have hsur := exec_surroundings hexec
  rw [complete_square_new node f hm, enterWave_square, configureSquare_quiet node (by simp)] at hexec hsur
  refine ⟨_, hexec, ?_, ?_, ?_, ?_, ?_, ?_, ?_, ?_, ?_, hsur⟩ <;> and_intros <;> simp [squarePeriodAt]

/-- In Sine a frame coasts where its amplitude is 0, and else leaves the outputs alone. -/
theorem configureSine_same_output (c : Params) (s : State) :
    if (configureSine c true s).amp = 0 then
      (configureSine c true s).bridge = .neutral ∧ (configureSine c true s).pwmWidth = 0 ∧
        (configureSine c true s).bridgeLog = s.bridgeLog ++ [.neutral]
    else SameOutput s (configureSine c true s) := by
  rw [configureSine_amp]
  split_ifs with ha
  · simp [configureSine_silent c ha]
  · rw [configureSine_loud c true ha]
    exact ⟨rfl, rfl, rfl⟩

/-- In Square a frame coasts where its duty is 0 and the bridge is enabled, and else leaves the outputs alone. -/
theorem configureSquare_same_output (c : Params) (s : State) :
    if (configureSquare c true s).dutyPercent = 0 ∧ s.bridgeEnabled = true then
      (configureSquare c true s).bridge = .neutral ∧ (configureSquare c true s).pwmWidth = c.sqOffWidth ∧
        (configureSquare c true s).bridgeLog = s.bridgeLog ++ [.neutral] ∧
        (configureSquare c true s).bridgeEnabled = false
    else SameOutput s (configureSquare c true s) ∧ (configureSquare c true s).bridgeEnabled = s.bridgeEnabled := by
  have hwidth : c.sqOffWidth ≤ c.pwmTop := c.sqOff_lt_on.le.trans c.sqOn_le_top
  rw [configureSquare_dutyPercent]
  split_ifs with h
  · simp [configureSquare_coast c h.1 h.2, hwidth]
  · rw [configureSquare_quiet c fun hq => h hq.2]
    exact ⟨⟨rfl, rfl, rfl⟩, rfl⟩

/-- Settles O21: Sine is configured without a restart. -/
theorem data2KeepsSineRunning : Obligations.Data2KeepsSineRunning := by
  intro r f s hm
  have hexec := exec_data2 r true f s
  have hsur := exec_surroundings hexec
  rw [complete_sine_same node f hm] at hexec hsur
  refine ⟨_, hexec, ?_, ?_, ?_, ?_, ?_, ?_, configureSine_same_output node (recordFrame node f s), ?_, ?_, hsur⟩ <;>
    and_intros <;> simp [hm, sineReloadAt]

/-- Settles O23: Square is configured without a restart. -/
theorem data2KeepsSquareRunning : Obligations.Data2KeepsSquareRunning := by
  intro r f s hm
  have hexec := exec_data2 r false f s
  have hsur := exec_surroundings hexec
  rw [complete_square_same node f hm] at hexec hsur
  refine ⟨_, hexec, ?_, ?_, ?_, ?_, ?_, ?_, configureSquare_same_output node (recordFrame node f s), ?_, ?_, hsur⟩ <;>
    and_intros <;> simp [hm, squarePeriodAt]

/-! ## What a node transmits (R116) -/

/-- The bytes a command transmits. -/
def forwardedBytes : Instr → List Byte
  | .addrFwd addr start => [addressByte (addr - 1) start]
  | .dataPass byte => [byte]
  | .stop | .start | .data1 _ _ | .data2 _ _ _ => []

theorem exec_forwards (i : Instr) (s : State) : ∃ t, exec i s = .next t ∧ t.txLog = s.txLog ++ forwardedBytes i := by
  cases i with
  | addrFwd | dataPass => exact ⟨_, rfl, rfl⟩
  | start | stop | data1 | data2 => exact ⟨_, rfl, by simp [forwardedBytes]⟩

theorem marker_iff_toNat : ∀ b : Byte, b.getLsbD 7 = true ↔ 128 ≤ b.toNat := by decide

theorem addrOf_eq_zero_iff_toNat : ∀ b : Byte, b.getLsbD 7 = false → (addrOf b = 0 ↔ b.toNat < 2) := by decide

/-- One hop less is the byte less 2: the start bit below the address stays. -/
theorem addressByte_pred_fields :
    ∀ b : Byte, b.getLsbD 7 = false → addrOf b ≠ 0 →
      addressByte (addrOf b - 1) (startOf b) = BitVec.ofNat 8 (b.toNat - 2) := by decide

/-- What a byte makes the node transmit, by its value and the parser state (R116). -/
theorem forwardedBytes_decodeByte (p : PState) (b : Byte) :
    forwardedBytes (decodeByte p b) =
      if b.toNat < 2 then [] else if b.toNat < 128 then [BitVec.ofNat 8 (b.toNat - 2)]
      else if p = .idle then [b] else [] := by
  cases hb : b.getLsbD 7 with
  | true =>
    have hlarge := (marker_iff_toNat b).1 hb
    rw [decodeByte_data p hb, if_neg (by omega), if_neg (by omega)]
    cases p <;> rfl
  | false =>
    have hsmall : b.toNat < 128 := not_le.1 (mt (marker_iff_toNat b).2 (Bool.eq_false_iff.1 hb))
    rw [decodeByte_address p hb, if_pos hsmall]
    by_cases ha : addrOf b = 0
    · rw [if_pos ((addrOf_eq_zero_iff_toNat b hb).1 ha), if_neg (not_not_intro ha)]
      split <;> rfl
    · rw [if_neg (mt (addrOf_eq_zero_iff_toNat b hb).2 ha), if_pos ha]
      exact congrArg ([·]) (addressByte_pred_fields b hb ha)

/-- Settles O25: the decoded command transmits what the byte's value says. -/
theorem forwardingLaw : Obligations.ForwardingLaw := by
  intro b s
  rw [← forwardedBytes_decodeByte]
  exact exec_forwards (decodeByte s.pstate b) s

/-! ## The same frame twice (R118) -/

/-- The engine is configured as the frame of latched duty `d`, wave `w` and frequency `f` configures it. -/
structure Configured (c : Params) (d : BitVec 5) (w : Bool) (f : BitVec 3) (s : State) : Prop where
  mode_eq : s.mode = waveMode w
  dutyPercent_eq : s.dutyPercent = calibratedDuty c d
  freqIndex_eq : s.freqIndex = f
  sine : w = true → s.amp = amplitude c (calibratedDuty c d) ∧ s.taEn = true ∧ s.taReload = sineReloadAt c f
  square : w = false → s.tbEn = true ∧ s.tbPeriod = squarePeriodAt c f

theorem Configured.mode_ne_idle {c : Params} {d : BitVec 5} {w : Bool} {f : BitVec 3} {s : State}
    (h : Configured c d w f s) : s.mode ≠ .idle := by
  rw [h.mode_eq]
  cases w <;> decide

theorem Configured.congr {c : Params} {d : BitVec 5} {w : Bool} {f : BitVec 3} {s t : State}
    (hs : Configured c d w f s) (h : SameConfiguration s t) : Configured c d w f t := by
  obtain ⟨⟨hm, hd, hf, ha⟩, hta, htr, htb, htp⟩ := h
  obtain ⟨hmode, hduty, hfreq, hsine, hsquare⟩ := hs
  exact ⟨hm ▸ hmode, hd ▸ hduty, hf ▸ hfreq, ha ▸ hta ▸ htr ▸ hsine, htb ▸ htp ▸ hsquare⟩

/-- A completed frame configures the engine, whatever ran before. -/
theorem configured_complete (c : Params) (w : Bool) (f : BitVec 3) (s : State) :
    Configured c s.dutyRaw w f (complete c w f s) := by
  cases w with
  | true =>
    by_cases hm : s.mode = .sine
    · rw [complete_sine_same c f hm]
      exact ⟨by simpa, by simp, by simp, by simp, nofun⟩
    · rw [complete_sine_new c f hm]
      exact ⟨by simp [enterWave_sine, waveMode], by simp, by simp, by simp, nofun⟩
  | false =>
    by_cases hm : s.mode = .square
    · rw [complete_square_same c f hm]
      exact ⟨by simpa, by simp, by simp, nofun, by simp⟩
    · rw [complete_square_new c f hm]
      exact ⟨by simp [enterWave_square, waveMode], by simp, by simp, nofun, by simp⟩

/-- A frame that finds the engine configured as it would configure it keeps the configuration. -/
theorem Configured.complete_same {c : Params} {w : Bool} {f : BitVec 3} {s : State}
    (h : Configured c s.dutyRaw w f s) : SameConfiguration s (complete c w f s) := by
  obtain ⟨hmode, hduty, hfreq, hsine, hsquare⟩ := h
  cases w with
  | true =>
    obtain ⟨hamp, hen, hreload⟩ := hsine rfl
    rw [complete_sine_same c f hmode]
    and_intros <;> simp [*]
  | false =>
    obtain ⟨hen, hperiod⟩ := hsquare rfl
    rw [complete_square_same c f hmode]
    and_intros <;> simp [*]

theorem sameConfiguration_trans {s t u : State} (h : SameConfiguration s t) (h' : SameConfiguration t u) :
    SameConfiguration s u := by
  and_intros <;> simp [h, h']

/-- An arrival and the clearing of the receive flags keep the configuration. -/
theorem sameConfiguration_clearRx_rxArrive (b : Byte) (s : State) :
    SameConfiguration s (clearRx (rxArrive b false false s)) := by
  and_intros <;> simp

/-- A received byte that is neither STOP nor DATA2 keeps the configuration and leaves the node ready. -/
theorem receive_keeps_configuration {b : Byte} {i : Instr} {s t : State} (hs : ReadyToReceive s)
    (hdecode : decodeByte s.pstate b = i) (hexec : exec i (clearRx (rxArrive b false false s)) = .next t)
    (hstop : i ≠ .stop) (hdata2 : ∀ r w f, i ≠ .data2 r w f) :
    receive b s = .next t ∧ ReadyToReceive t ∧ SameConfiguration s t := by
  obtain ⟨⟨hengine, -, -, htimers, -, -⟩, -⟩ := exec_keeps_actuation hexec hstop hdata2
  exact ⟨by rw [receive_of_ready b hs, hdecode, hexec], readyToReceive_of_exec hs hexec,
    sameConfiguration_trans (sameConfiguration_clearRx_rxArrive b s) ⟨hengine, htimers⟩⟩

/-- START opens a frame at a ready node (R112). -/
theorem receive_start {s : State} (hs : ReadyToReceive s) :
    ∃ t, receive 0x01 s = .next t ∧ ReadyToReceive t ∧ SameConfiguration s t ∧ t.pstate = .waitData1 := by
  obtain ⟨hrun, hready, hsame⟩ :=
    receive_keeps_configuration (b := 0x01) hs (decodeByte_address s.pstate rfl) (exec_start _) nofun nofun
  exact ⟨_, hrun, hready, hsame, rfl⟩

/-- Data byte 1 latches the duty (R114). -/
theorem receive_data1 {b : Byte} {s : State} (hb : b.getLsbD 7 = true) (hp : s.pstate = .waitData1)
    (hs : ReadyToReceive s) :
    ∃ t, receive b s = .next t ∧ ReadyToReceive t ∧ SameConfiguration s t ∧ t.pstate = .waitData2 ∧
      t.dutyRaw = dutyOf b := by
  have hdecode : decodeByte s.pstate b = .data1 (reserved1Of b) (dutyOf b) := by rw [hp, decodeByte_data _ hb]
  obtain ⟨hrun, hready, hsame⟩ := receive_keeps_configuration hs hdecode (exec_data1 _ _ _) nofun nofun
  exact ⟨_, hrun, hready, hsame, rfl, rfl⟩

/-- Data byte 2 configures the engine, and keeps a configuration that is the frame's already (R115). -/
theorem receive_data2 {b : Byte} {s : State} (hb : b.getLsbD 7 = true) (hp : s.pstate = .waitData2)
    (hs : ReadyToReceive s) :
    ∃ t, receive b s = .next t ∧ ReadyToReceive t ∧ Configured node s.dutyRaw (waveOf b) (freqOf b) t ∧
      (Configured node s.dutyRaw (waveOf b) (freqOf b) s → SameConfiguration s t) := by
  have hdecode : decodeByte s.pstate b = .data2 (reserved2Of b) (waveOf b) (freqOf b) := by
    rw [hp, decodeByte_data _ hb]
  have hexec := exec_data2 (reserved2Of b) (waveOf b) (freqOf b) (clearRx (rxArrive b false false s))
  have harrive := sameConfiguration_clearRx_rxArrive b s
  have hduty : (clearRx (rxArrive b false false s)).dutyRaw = s.dutyRaw := by simp
  refine ⟨_, by rw [receive_of_ready b hs, hdecode, hexec], readyToReceive_of_exec hs hexec, ?_, fun h => ?_⟩
  · rw [← hduty]
    exact (configured_complete node _ _ _).congr (by and_intros <;> rfl)
  · rw [← hduty] at h
    exact sameConfiguration_trans harrive (h.congr harrive).complete_same

/-- A frame for a ready node configures the engine, and keeps a configuration that is its own already. -/
theorem receiveAll_frame_configures {d1 d2 : Byte} {s : State} (h1 : d1.getLsbD 7 = true) (h2 : d2.getLsbD 7 = true)
    (hs : ReadyToReceive s) :
    ∃ t, receiveAll [0x01, d1, d2] s = .next t ∧ ReadyToReceive t ∧
      Configured node (dutyOf d1) (waveOf d2) (freqOf d2) t ∧
      (Configured node (dutyOf d1) (waveOf d2) (freqOf d2) s → SameConfiguration s t) := by
  obtain ⟨u, hru, hready, hsu, hpu⟩ := receive_start hs
  obtain ⟨v, hrv, hready, huv, hpv, hduty⟩ := receive_data1 h1 hpu hready
  obtain ⟨t, hrt, hready, hconf, hkeep⟩ := receive_data2 h2 hpv hready
  have hsv := sameConfiguration_trans hsu huv
  rw [hduty] at hconf hkeep
  exact ⟨t, by simp only [receiveAll, hru, hrv, hrt], hready, hconf,
    fun h => sameConfiguration_trans hsv (hkeep (h.congr hsv))⟩

/-- Settles O26: the second frame finds the configuration that the first one left. -/
theorem repeatedFrameSameConfiguration : Obligations.RepeatedFrameSameConfiguration := by
  intro s d1 d2 hs h1 h2
  obtain ⟨t, hrt, hready, hconf, -⟩ := receiveAll_frame_configures h1 h2 hs
  obtain ⟨u, hru, -, -, hkeep⟩ := receiveAll_frame_configures h1 h2 hready
  exact ⟨t, u, hrt, hru, hconf.mode_ne_idle, hkeep hconf⟩

end Sys2Proof.Machine

/-! PROOFS. The output stage (41_output_stage.md): what `Coast`, `Route` and `SetPwm` write, and that whatever a step
issues to the bridge breaks before it makes. -/

namespace Sys2Proof.Machine

open Sys2Proof.Config

/-! ## What a step issues -/

/-- A log that breaks before it makes from its start does so after any entry. -/
theorem breakBeforeMake_of_none {log : List Bridge} (prev : Option Bridge) (h : breakBeforeMake none log = true) :
    breakBeforeMake prev log = true := by
  cases log with
  | nil => rfl
  | cons v log =>
    obtain ⟨rfl, hlog⟩ : v = .neutral ∧ breakBeforeMake (some v) log = true := by simpa [breakBeforeMake] using h
    simpa [breakBeforeMake] using hlog

/-- From `s` to `t` the bridge is issued a list of writes that breaks before it makes on its own, whatever was written
before; the bridge then has the state of the last one. -/
def BreaksBeforeMaking (s t : State) : Prop :=
  ∃ writes : List Bridge, t.bridgeLog = s.bridgeLog ++ writes ∧ t.bridge = writes.getLast?.getD s.bridge ∧
    breakBeforeMake none writes = true

theorem BreaksBeforeMaking.of_hold {s t : State} (hb : t.bridge = s.bridge) (hl : t.bridgeLog = s.bridgeLog) :
    BreaksBeforeMaking s t := ⟨[], by simpa using hl, hb, rfl⟩

theorem BreaksBeforeMaking.of_coast {s t : State} (hb : t.bridge = .neutral)
    (hl : t.bridgeLog = s.bridgeLog ++ [.neutral]) : BreaksBeforeMaking s t := ⟨[.neutral], hl, hb, rfl⟩

theorem BreaksBeforeMaking.of_route {p : Bridge} {s t : State} (hb : t.bridge = p)
    (hl : t.bridgeLog = s.bridgeLog ++ [.neutral] ++ [p]) : BreaksBeforeMaking s t :=
  ⟨[.neutral, p], by simpa using hl, hb, by simp [breakBeforeMake]⟩

theorem BreaksBeforeMaking.trans {s t u : State} (h : BreaksBeforeMaking s t) (h' : BreaksBeforeMaking t u) :
    BreaksBeforeMaking s u := by
  obtain ⟨writes, hl, hb, hw⟩ := h
  obtain ⟨writes', hl', hb', hw'⟩ := h'
  refine ⟨writes ++ writes', by rw [hl', hl, List.append_assoc], ?_, ?_⟩
  · rw [hb', hb, List.getLast?_append, Option.getD_or]
  · rw [breakBeforeMake_append, hw, breakBeforeMake_of_none _ hw', Bool.and_self]

theorem configureSine_breaksBeforeMaking (c : Params) (same : Bool) (s : State) :
    BreaksBeforeMaking s (configureSine c same s) := by
  by_cases ha : amplitude c s.dutyPercent = 0
  · cases same with
    | true =>
      rw [configureSine_silent c ha]
      exact .of_coast rfl rfl
    | false =>
      rw [configureSine_new]
      exact .of_hold rfl rfl
  · rw [configureSine_loud c same ha]
    exact .of_hold rfl rfl

theorem configureSquare_breaksBeforeMaking (c : Params) (same : Bool) (s : State) :
    BreaksBeforeMaking s (configureSquare c same s) := by
  by_cases hcoast : same = true ∧ s.dutyPercent = 0 ∧ s.bridgeEnabled = true
  · obtain ⟨rfl, hd, hb⟩ := hcoast
    rw [configureSquare_coast c hd hb]
    exact .of_coast rfl rfl
  · rw [configureSquare_quiet c hcoast]
    exact .of_hold rfl rfl

/-- A mode change coasts. -/
theorem enterWave_breaksBeforeMaking (c : Params) (w : Bool) (s : State) : BreaksBeforeMaking s (enterWave c w s) := by
  cases w with
  | true => exact enterWave_sine c s ▸ .of_coast rfl rfl
  | false => exact enterWave_square c s ▸ .of_coast rfl rfl

theorem complete_breaksBeforeMaking (c : Params) (w : Bool) (f : BitVec 3) (s : State) :
    BreaksBeforeMaking s (complete c w f s) :=
  complete_rule c f s (P := BreaksBeforeMaking s)
    (fun _ => configureSine_breaksBeforeMaking c true (recordFrame c f s))
    ((enterWave_breaksBeforeMaking c true s).trans (configureSine_breaksBeforeMaking c false (recordFrame c f _)))
    (fun _ => configureSquare_breaksBeforeMaking c true (recordFrame c f s))
    ((enterWave_breaksBeforeMaking c false s).trans (configureSquare_breaksBeforeMaking c false (recordFrame c f _))) w

/-- A sample coasts at amplitude 0, routes where the sign changes, and else leaves the bridge alone. -/
theorem driveSample_breaksBeforeMaking (c : Params) (x : Int) (s : State) :
    BreaksBeforeMaking s (driveSample c x s) := by
  by_cases ha : s.amp = 0
  · rw [driveSample_silent c x ha]
    exact .of_coast rfl rfl
  · by_cases hs : zeroCross x s.lastSign = s.lastSign
    · rw [driveSample_hold c x ha hs]
      exact .of_hold rfl rfl
    · rw [driveSample_cross c x ha hs]
      exact .of_route rfl rfl

theorem sineTick_breaksBeforeMaking (c : Params) (s : State) : BreaksBeforeMaking s (sineTick c s) := by
  by_cases hm : s.mode = .sine
  · exact sineTick_sine c hm ▸ driveSample_breaksBeforeMaking c _ (advancePhase c s)
  · rw [sineTick_other c hm]
    exact .of_hold rfl rfl

theorem applyWindow_breaksBeforeMaking (c : Params) (on : Bool) (h : Half) (s : State) :
    BreaksBeforeMaking s (applyWindow c on h s) := by
  cases on with
  | true => exact applyWindow_on c h s ▸ .of_route rfl rfl
  | false => exact applyWindow_off c h s ▸ .of_coast rfl rfl

theorem squareProcess_breaksBeforeMaking (c : Params) (s : State) : BreaksBeforeMaking s (squareProcess c s) := by
  rcases squareProcess_cases c s with h | ⟨-, h⟩ <;> rw [h]
  · exact .of_hold rfl rfl
  · exact applyWindow_breaksBeforeMaking c _ _ { s with squarePending := false }

/-- Whatever a step issues to the bridge breaks before it makes. -/
theorem step_breaksBeforeMaking {s t : State} (h : step s = .next t) : BreaksBeforeMaking s t := by
  refine step_keeps_actuation (P := BreaksBeforeMaking s) ?frame
    (fun u hu => hu.trans (.of_coast (by simp) (by simp)))
    (fun w f u hu => hu.trans (complete_breaksBeforeMaking node w f u))
    (fun u hu => hu.trans (sineTick_breaksBeforeMaking node { u with taPending := false }))
    (fun u hu => hu.trans (.of_hold (by simp) (by simp)))
    (fun u hu => hu.trans (squareProcess_breaksBeforeMaking node u))
    (fun _ _ hu => hu) (fun _ _ hu => hu) (.of_hold rfl rfl) h
  rintro u v ⟨-, -, -, -, -, hb, -, hl⟩ hu
  exact hu.trans (.of_hold hb hl)

/-! ## Lists of `BridgeWrite` calls -/

theorem bridgeLog_foldl_bridgeWrite (calls : List Bridge) (s : State) :
    (calls.foldl (fun x v => bridgeWrite v x) s).bridgeLog = s.bridgeLog ++ calls := by
  induction calls generalizing s with
  | nil => simp
  | cons v calls ih => simp [ih]

theorem bridge_foldl_bridgeWrite (calls : List Bridge) (s : State) :
    (calls.foldl (fun x v => bridgeWrite v x) s).bridge = calls.getLast?.getD s.bridge := by
  induction calls generalizing s with
  | nil => rfl
  | cons v calls ih => simp [ih, List.getLast?_cons]

/-! ## The obligations -/

/-- Settles O40: what a step appends breaks before it makes on its own, so after any log. -/
theorem breakBeforeMakeKept : Obligations.BreakBeforeMakeKept := by
  rintro s t ⟨hlog, hlast⟩ h
  obtain ⟨writes, hl, hb, hw⟩ := step_breaksBeforeMaking h
  constructor
  · rw [hl, breakBeforeMake_append, hlog, breakBeforeMake_of_none _ hw, Bool.and_self]
  · rw [hb, hl, hlast, List.getLast?_append, Option.getD_or]

/-- Settles O37: the calls are the writes the step issues. -/
theorem bridgeWriteIsTheOnlyWriter : Obligations.BridgeWriteIsTheOnlyWriter := by
  refine ⟨fun _ _ => rfl, fun s t h => ?_⟩
  obtain ⟨writes, hl, hb, -⟩ := step_breaksBeforeMaking h
  exact ⟨writes, hb.trans (bridge_foldl_bridgeWrite writes s).symm, hl.trans (bridgeLog_foldl_bridgeWrite writes s).symm⟩

/-- Settles O38: `Coast` is one bridge write, `Route` two. -/
theorem routeBreaksBeforeMaking : Obligations.RouteBreaksBeforeMaking :=
  ⟨fun s => ⟨coast_bridge s, coast_bridgeLog s⟩,
    fun p s => ⟨route_bridge p s, by simp, route_pwmWidth p s⟩⟩

/-- Settles O39: the clamped width is at most PWM_TOP, so its complement adds up to PWM_TOP. -/
theorem pwmClampAndCompare : Obligations.PwmClampAndCompare := by
  intro c w s
  have hle : (setPwm c w s).pwmWidth ≤ c.pwmTop := Nat.min_le_right w c.pwmTop
  refine ⟨rfl, ?_⟩
  unfold pwmCompare
  cases c.pwmActiveLow with
  | true => exact ⟨Nat.sub_le _ _, fun _ => Nat.sub_add_cancel hle, nofun⟩
  | false => exact ⟨hle, nofun, fun _ => rfl⟩

end Sys2Proof.Machine

/-! PROOFS. The waveform selector's values (42_waveform_selector.md R160, R161): the calibrated duty is the curve's own
value, the amplitude the rounded share of PWM_TOP, since neither guard ever acts. -/

namespace Sys2Proof.Machine

open Sys2Proof.Config

/-! ## Rounding (00_scope.md R12) -/

/-- A share of at most one whole rounds to at most the whole. -/
theorem rnd_mul_le (a : Nat) {x b : Nat} (hb : 1 ≤ b) (hx : x ≤ b) : rnd (a * x) b ≤ a :=
  calc
    rnd (a * x) b ≤ rnd (a * b) b := rnd_mono b (Nat.mul_le_mul_left a hx)
    _ = a := rnd_mul_right a hb

/-- Less than half a step rounds to 0, and nothing else does. -/
theorem rnd_eq_zero_iff (a : Nat) {b : Nat} (hb : 1 ≤ b) : rnd a b = 0 ↔ 2 * a < b := by
  unfold rnd
  rw [Nat.div_eq_zero_iff_lt (by omega)]
  omega

/-! ## The calibrated duty and the amplitude -/

theorem calibratedDuty_eq_cal (c : Params) (r : BitVec 5) : calibratedDuty c r = c.cal r.toFin :=
  Nat.min_eq_right (c.cal_le r.toFin)

theorem calibratedDuty_mono (c : Params) {q r : BitVec 5} (h : q ≤ r) : calibratedDuty c q ≤ calibratedDuty c r := by
  rw [calibratedDuty_eq_cal, calibratedDuty_eq_cal]
  exact c.cal_mono q.toFin r.toFin h

/-- The floor of the curve: what it gives at raw duty 1 is a lower bound from there on. -/
theorem one_le_calibratedDuty (c : Params) {r : BitVec 5} (hr : r ≠ 0) : 1 ≤ calibratedDuty c r := by
  have hone : 1 ≤ r.toFin := Fin.one_le_of_ne_zero fun h => hr (BitVec.toFin_inj.1 h)
  rw [calibratedDuty_eq_cal]
  exact c.cal_one.trans (c.cal_mono 1 r.toFin hone)

theorem amplitude_eq_rnd (c : Params) {dp : Nat} (h : dp ≤ 100) : amplitude c dp = rnd (c.pwmTop * dp) 100 :=
  Nat.min_eq_right (rnd_mul_le c.pwmTop (by decide) h)

/-! ## The obligations -/

/-- Settles O41: the calibrated duty is the curve, whose constraints these are. -/
theorem calibrationCurve : Obligations.CalibrationCurve := fun c =>
  ⟨(calibratedDuty_eq_cal c 0).trans c.cal_zero, fun r => ⟨calibratedDuty_le c r, calibratedDuty_eq_cal c r⟩,
    fun _ hr => one_le_calibratedDuty c hr, fun _ _ h => calibratedDuty_mono c h⟩

/-- Settles O42: the amplitude is the rounded share, which is 0 below half a step only. -/
theorem amplitudeScale : Obligations.AmplitudeScale := by
  intro c dp h
  refine ⟨amplitude_eq_rnd c h, amplitude_le c dp, ?_⟩
  rw [amplitude_eq_rnd c h, rnd_eq_zero_iff _ (by decide), Nat.mul_assoc]

end Sys2Proof.Machine

/-! PROOFS. The square drive (43_square_drive.md): at which counts the window is on, what a tick and its processing write,
and the counts at which a full window is issued again. -/

namespace Sys2Proof.Machine

open Sys2Proof.Config

/-! ## The window functions (R180, R181) -/

theorem windowOn_iff (wc dp : Nat) : windowOn wc dp = true ↔ (wc < dp ∨ (100 ≤ wc ∧ wc < 100 + dp)) := by
  simp [windowOn]

theorem windowOn_eq_false_iff (wc dp : Nat) : windowOn wc dp = false ↔ ¬(wc < dp ∨ (100 ≤ wc ∧ wc < 100 + dp)) := by
  rw [← windowOn_iff, Bool.not_eq_true]

theorem halfOf_eq_halfOf_iff (a b : Nat) : halfOf a = halfOf b ↔ (a < 100 ↔ b < 100) := by
  unfold halfOf
  split_ifs with ha hb hb <;> simp [ha, hb]

/-- The polarity of a count's half, `pol(wc)`. -/
theorem halfPolarity_halfOf (wc : Nat) : halfPolarity (halfOf wc) = if wc < 100 then .pos else .neg :=
  apply_ite halfPolarity _ _ _

/-- The counts of one half that are on are its first `dp`. -/
theorem filter_windowOn_half {start dp : Nat} (hstart : start = 0 ∨ start = 100) (h : dp ≤ 100) :
    (List.Ico start (start + 100)).filter (fun wc => windowOn wc dp) = List.Ico start (start + dp) := by
  rw [List.filter_congr (q := (· < start + dp)), List.Ico.filter_lt, min_eq_right (by omega)]
  intro wc hwc
  obtain ⟨hle, hlt⟩ := List.Ico.mem.1 hwc
  rw [Bool.eq_iff_iff, windowOn_iff, decide_eq_true_iff]
  omega

/-- A window is its two halves. -/
theorem filter_windowOn_range {dp : Nat} (h : dp ≤ 100) :
    (List.range 200).filter (fun wc => windowOn wc dp) = List.Ico 0 (0 + dp) ++ List.Ico 100 (100 + dp) := by
  rw [← List.Ico.zero_bot, ← List.Ico.append_consecutive (m := 100) (by decide) (by decide), List.filter_append,
    ← filter_windowOn_half (.inl rfl) h, ← filter_windowOn_half (.inr rfl) h]

/-! ## The tick and its processing (R182, R183) -/

theorem perform_service_timerB {s : State} (hgie : s.gie = true) (hpending : s.tbPending = true) :
    perform (.service .timerB) s = .next (squareTick { s with tbPending := false }) :=
  perform_service (by simp [serviceable, requested, hgie, hpending])

@[simp] theorem squareProcess_squarePending (c : Params) (s : State) : (squareProcess c s).squarePending = false := by
  rcases squareProcess_cases c s with h | ⟨-, h⟩ <;> simp [h]

/-- What applying an on/off state and a half-window issues to the bridge. -/
def windowWrites (on : Bool) (h : Half) : List Bridge := if on then [.neutral, halfPolarity h] else [.neutral]

@[simp] theorem applyWindow_bridgeEnabled (c : Params) (on : Bool) (h : Half) (s : State) :
    (applyWindow c on h s).bridgeEnabled = on := by cases on <;> rfl
@[simp] theorem applyWindow_appliedHalf (c : Params) (on : Bool) (h : Half) (s : State) :
    (applyWindow c on h s).appliedHalf = h := by cases on <;> rfl
@[simp] theorem applyWindow_dutyApplied (c : Params) (on : Bool) (h : Half) (s : State) :
    (applyWindow c on h s).dutyApplied = true := by cases on <;> rfl
@[simp] theorem applyWindow_bridge (c : Params) (on : Bool) (h : Half) (s : State) :
    (applyWindow c on h s).bridge = if on then halfPolarity h else .neutral := by cases on <;> rfl
@[simp] theorem applyWindow_bridgeLog (c : Params) (on : Bool) (h : Half) (s : State) :
    (applyWindow c on h s).bridgeLog = s.bridgeLog ++ windowWrites on h := by
  cases on <;> simp [applyWindow_on, applyWindow_off, windowWrites]

/-- Neither width is clamped, since both are at most PWM_TOP. -/
@[simp] theorem applyWindow_pwmWidth (c : Params) (on : Bool) (h : Half) (s : State) :
    (applyWindow c on h s).pwmWidth = if on then c.sqOnWidth else c.sqOffWidth := by
  cases on with
  | true => exact min_eq_left c.sqOn_le_top
  | false => exact min_eq_left (c.sqOff_lt_on.le.trans c.sqOn_le_top)

/-- Whatever was applied before, the state of the current count is applied afterwards. -/
theorem windowApplied_squareProcess (c : Params) {s : State} (hm : s.mode = .square) :
    WindowApplied (squareProcess c s) := by
  cases ha : alreadyApplied (windowOn s.wc s.dutyPercent) (halfOf s.wc) s with
  | true =>
    rw [squareProcess_applied c hm ha]
    exact (alreadyApplied_iff _ _ s).1 ha
  | false =>
    rw [squareProcess_apply c hm ha]
    exact ⟨by simp, by simp, by simp⟩

/-- Where the window is applied, its processing writes no output. -/
theorem squareProcess_output_of_windowApplied (c : Params) {s : State} (hm : s.mode = .square) (h : WindowApplied s) :
    SameOutput s (squareProcess c s) := by
  rw [squareProcess_applied c hm ((alreadyApplied_iff _ _ s).2 h)]
  exact ⟨rfl, rfl, rfl⟩

/-- Where the window is not applied, its processing applies it. -/
theorem squareProcess_of_not_windowApplied (c : Params) {s : State} (hm : s.mode = .square) (h : ¬WindowApplied s) :
    squareProcess c s =
      applyWindow c (windowOn s.wc s.dutyPercent) (halfOf s.wc) { s with squarePending := false } :=
  squareProcess_apply c hm (Bool.eq_false_iff.2 (mt (alreadyApplied_iff _ _ s).1 h))

/-! ## The counts at which a window is issued again (R186) -/

/-- What R186 lists as issued at count `wc`. -/
def reissuedAt (dp wc : Nat) : List Bridge :=
  if wc = 0 then (if dp = 0 then [.neutral] else [.neutral, .pos])
  else if wc = 100 then (if dp = 0 then [.neutral] else [.neutral, .neg])
  else if 0 < dp ∧ dp < 100 ∧ (wc = dp ∨ wc = 100 + dp) then [.neutral]
  else []

theorem reissuedAt_eq_nil_iff (dp wc : Nat) :
    reissuedAt dp wc = [] ↔ wc ≠ 0 ∧ wc ≠ 100 ∧ ¬(0 < dp ∧ dp < 100 ∧ (wc = dp ∨ wc = 100 + dp)) := by
  unfold reissuedAt
  split_ifs <;> simp_all

/-- What R186 lists at a count is what applying the window at that count issues. -/
theorem reissuedAt_eq_windowWrites {dp wc : Nat} (h : reissuedAt dp wc ≠ []) :
    reissuedAt dp wc = windowWrites (windowOn wc dp) (halfOf wc) := by
  by_cases hstart : wc = 0 ∨ wc = 100
  · rcases Nat.eq_zero_or_pos dp with rfl | hdp
    · rcases hstart with rfl | rfl <;> rfl
    · have hon : windowOn wc dp = true := (windowOn_iff wc dp).2 (by omega)
      rcases hstart with rfl | rfl <;> simp [reissuedAt, windowWrites, hon, hdp.ne', halfPolarity_halfOf]
  · rw [not_or] at hstart
    obtain ⟨h0, h100⟩ := hstart
    have hend : 0 < dp ∧ dp < 100 ∧ (wc = dp ∨ wc = 100 + dp) :=
      not_not.1 fun hn => h ((reissuedAt_eq_nil_iff dp wc).2 ⟨h0, h100, hn⟩)
    have hoff : windowOn wc dp = false := (windowOn_eq_false_iff wc dp).2 (by omega)
    rw [reissuedAt, if_neg h0, if_neg h100, if_pos hend, hoff]
    rfl

/-- From one count to the next the half and the on/off state are equal except where R186 lists an issue. -/
theorem window_unchanged_iff {wc dp : Nat} (hwc : wc < 200) (hdp : dp ≤ 100) :
    (windowOn wc dp = windowOn ((wc + 1) % 200) dp ∧ halfOf wc = halfOf ((wc + 1) % 200)) ↔
      reissuedAt dp ((wc + 1) % 200) = [] := by
  rw [Bool.eq_iff_iff, windowOn_iff, windowOn_iff, halfOf_eq_halfOf_iff, reissuedAt_eq_nil_iff]
  omega

theorem squareTick_wc_square {s : State} (hm : s.mode = .square) : (squareTick s).wc = (s.wc + 1) % 200 := by
  rw [squareTick_square hm]

/-- A tick keeps the window applied except where R186 lists an issue. -/
theorem windowApplied_squareTick_iff {s : State} (h : WindowApplied s) (hm : s.mode = .square) (hwc : s.wc < 200)
    (hdp : s.dutyPercent ≤ 100) :
    WindowApplied (squareTick s) ↔ reissuedAt s.dutyPercent ((s.wc + 1) % 200) = [] := by
  obtain ⟨hda, hbe, hah⟩ := h
  rw [← window_unchanged_iff hwc hdp, ← hbe, ← hah]
  simp [WindowApplied, squareTick_wc_square hm, hda]

/-! ## The obligations -/

/-- Settles O48. -/
theorem windowOnFunction : Obligations.WindowOnFunction := windowOn_iff

/-- Settles O49: the counts that are on are `dp` consecutive ones in each half. -/
theorem windowOnCount : Obligations.WindowOnCount := by
  intro dp h
  rw [filter_windowOn_range h, List.length_append, List.Ico.length, List.Ico.length]
  omega

/-- Settles O50: the service clears the request and runs the tick, whose guard is the mode. -/
theorem squareTickAdvancesWindow : Obligations.SquareTickAdvancesWindow := by
  intro s hgie hpending
  rw [perform_service_timerB hgie hpending]
  split_ifs with hm
  · exact congrArg _ (squareTick_square hm)
  · exact congrArg _ (squareTick_other hm)

/-- Settles O51: an applied window is held, another one applied. -/
theorem windowReissueOnlyOnChange : Obligations.WindowReissueOnlyOnChange := by
  intro s hpending hm
  refine ⟨squareProcess node s, perform_process hpending, squareProcess_squarePending node s, squareProcess_wc node s,
    windowApplied_squareProcess node hm, ?output, ?_⟩
  case output =>
    by_cases happlied : WindowApplied s
    · rw [if_pos happlied]
      exact squareProcess_output_of_windowApplied node hm happlied
    · rw [if_neg happlied, squareProcess_of_not_windowApplied node hm happlied]
      cases windowOn s.wc s.dutyPercent <;> simp [windowWrites, halfPolarity_halfOf]
  and_intros <;> simp [SameTransmit, SameGie]

/-- Settles O52: the window stays applied over a tick except where R186 lists an issue, and there it is applied anew. -/
theorem reissuePointsOfFullWindow : Obligations.ReissuePointsOfFullWindow := by
  intro s hm hwc hdp happlied t issued
  have hmode : (squareTick s).mode = .square := (squareTick_mode s).trans hm
  have hcount : t.wc = (s.wc + 1) % 200 := (squareProcess_wc _ _).trans (squareTick_wc_square hm)
  have hissued : issued = reissuedAt s.dutyPercent ((s.wc + 1) % 200) := by rw [← hcount]; rfl
  refine ⟨hcount, (squareProcess_mode _ _).trans hmode, by simp [t], windowApplied_squareProcess node hmode, ?_⟩
  rw [hissued]
  by_cases hnil : reissuedAt s.dutyPercent ((s.wc + 1) % 200) = []
  · have hheld := (windowApplied_squareTick_iff happlied hm hwc hdp).2 hnil
    obtain ⟨hbridge, hwidth, hlog⟩ := squareProcess_output_of_windowApplied node hmode hheld
    exact ⟨by simpa [hnil] using hlog, fun _ => ⟨by simpa using hbridge, by simpa using hwidth⟩⟩
  · have hchanged := mt (windowApplied_squareTick_iff happlied hm hwc hdp).1 hnil
    refine ⟨?_, fun h => absurd h hnil⟩
    rw [reissuedAt_eq_windowWrites hnil, show t = _ from squareProcess_of_not_windowApplied node hmode hchanged]
    simp [squareTick_wc_square hm]

/-- Settles O53: silence at duty 0 is a clause of the mode invariant, which every step keeps. -/
theorem squareDutyExtremes : Obligations.SquareDutyExtremes :=
  ⟨fun s t hs h => (modeExclusionKept s t hs h).square_silent, windowOn_zero,
    fun wc hwc => (windowOn_iff wc 100).2 (by omega)⟩

end Sys2Proof.Machine

/-! PROOFS. The sine drive (44_sine_drive.md): what one tick records and issues, the sign and the phase over a run of
ticks, and the polarity that every step keeps with the sign. -/

namespace Sys2Proof.Machine

open Sys2Proof.Config

/-! ## The zero-crossing detector and the samples (R200, R201) -/

theorem zeroCross_of_pos {x : Int} (h : 0 < x) (last : Sign) : zeroCross x last = .plus := if_pos h

theorem zeroCross_of_neg {x : Int} (h : x < 0) (last : Sign) : zeroCross x last = .minus :=
  (if_neg h.not_gt).trans (if_pos h)

/-- A zero sample inherits the sign. -/
@[simp] theorem zeroCross_zero (last : Sign) : zeroCross 0 last = last := rfl

/-- Samples at phases equal modulo SINE_LEN are equal. -/
theorem sampleAt_congr {c : Params} {i j : Nat} (h : i ≡ j [MOD c.sineLen]) : sampleAt c i = sampleAt c j := by
  rw [← sampleAt_mod c i, h, sampleAt_mod]

/-! ## One tick in Sine mode (R201 to R204) -/

theorem perform_service_timerA {s : State} (hgie : s.gie = true) (hpending : s.taPending = true) :
    perform (.service .timerA) s = .next (sineTick node { s with taPending := false }) :=
  perform_service (by simp [serviceable, requested, hgie, hpending])

/-- At every amplitude the sign of the sample is recorded. -/
@[simp] theorem driveSample_lastSign (c : Params) (x : Int) (s : State) :
    (driveSample c x s).lastSign = zeroCross x s.lastSign := by
  by_cases ha : s.amp = 0
  · rw [driveSample_silent c x ha]
  · by_cases hs : zeroCross x s.lastSign = s.lastSign
    · simp [driveSample_hold c x ha hs, hs]
    · simp [driveSample_cross c x ha hs]

section Tick

variable (c : Params) {s : State} (hm : s.mode = .sine)
include hm

theorem sineTick_phase : (sineTick c s).phase = (s.phase + 1) % c.sineLen := by
  simp [sineTick_sine c hm]

theorem sineTick_taReload : (sineTick c s).taReload = sineReloadAt c s.freqIndex := by
  simp [sineTick_sine c hm]

theorem sineTick_lastSign : (sineTick c s).lastSign = zeroCross (sampleAt c (s.phase + 1)) s.lastSign := by
  simp [sineTick_sine c hm]

/-- The sample a tick drives is the one at the phase it advances to. -/
theorem sineTick_lastSign_eq_zeroCross :
    (sineTick c s).lastSign = zeroCross (sampleAt c (sineTick c s).phase) s.lastSign := by
  rw [sineTick_lastSign c hm, sineTick_phase c hm, sampleAt_mod]

/-- At amplitude 0 a tick coasts (R202). -/
theorem sineTick_output_silent (ha : s.amp = 0) :
    (sineTick c s).bridge = .neutral ∧ (sineTick c s).bridgeLog = s.bridgeLog ++ [.neutral] ∧
      (sineTick c s).pwmWidth = 0 := by
  rw [sineTick_sine c hm, driveSample_silent c _ (by simpa)]
  simp

/-- At a nonzero amplitude the width is the clamped share of the amplitude, whether or not the bridge is routed (R204). -/
theorem sineTick_pwmWidth_loud (ha : s.amp ≠ 0) :
    (sineTick c s).pwmWidth = min (forwardDuty c s.amp (sampleAt c (sineTick c s).phase)) c.pwmTop := by
  rw [sineTick_phase c hm, sampleAt_mod, sineTick_sine c hm, driveSample, if_neg (by simpa)]
  simp

/-- At a nonzero amplitude a tick that keeps the sign issues nothing (R203). -/
theorem sineTick_output_hold (ha : s.amp ≠ 0) (hs : (sineTick c s).lastSign = s.lastSign) :
    (sineTick c s).bridge = s.bridge ∧ (sineTick c s).bridgeLog = s.bridgeLog := by
  rw [sineTick_lastSign c hm] at hs
  rw [sineTick_sine c hm, driveSample_hold c _ (s := advancePhase c s) ha hs]
  exact ⟨rfl, rfl⟩

/-- At a nonzero amplitude a tick that changes the sign routes the bridge to the new sign's polarity (R203). -/
theorem sineTick_output_cross (ha : s.amp ≠ 0) (hs : (sineTick c s).lastSign ≠ s.lastSign) :
    (sineTick c s).bridge = signPolarity (sineTick c s).lastSign ∧
      (sineTick c s).bridgeLog = s.bridgeLog ++ [.neutral, signPolarity (sineTick c s).lastSign] := by
  rw [sineTick_lastSign c hm] at hs ⊢
  rw [sineTick_sine c hm, driveSample_cross c _ (s := advancePhase c s) ha hs]
  simp

/-- A sign that a tick changes is not 0. -/
theorem sineTick_lastSign_ne_zero (hs : (sineTick c s).lastSign ≠ s.lastSign) : (sineTick c s).lastSign ≠ .zero := by
  rw [sineTick_lastSign c hm] at hs ⊢
  exact zeroCross_ne_zero hs

end Tick

/-! ## Runs of ticks (R206) -/

@[simp] theorem sineRun_succ (c : Params) (n : Nat) (s : State) : sineRun c (n + 1) s = sineTick c (sineRun c n s) := rfl

@[simp] theorem sineRun_mode (c : Params) (n : Nat) (s : State) : (sineRun c n s).mode = s.mode := by
  induction n with
  | zero => rfl
  | succ n ih => simpa using ih

@[simp] theorem sineRun_amp (c : Params) (n : Nat) (s : State) : (sineRun c n s).amp = s.amp := by
  induction n with
  | zero => rfl
  | succ n ih => simpa using ih

/-- A run advances the phase by its ticks, modulo SINE_LEN. -/
theorem sineRun_phase_modEq (c : Params) {s : State} (hm : s.mode = .sine) (n : Nat) :
    (sineRun c n s).phase ≡ s.phase + n [MOD c.sineLen] := by
  induction n with
  | zero => rfl
  | succ n ih =>
    rw [sineRun_succ, sineTick_phase c ((sineRun_mode c n s).trans hm)]
    exact (Nat.mod_modEq _ _).trans (ih.add_right 1)

/-! ## Polarity consistency (R207): kept by every operation -/

theorem PolarityConsistent.congr {s t : State} (hs : PolarityConsistent s) (hm : t.mode = s.mode)
    (hsign : t.lastSign = s.lastSign) (ha : t.amp = s.amp) (hb : t.bridge = s.bridge) : PolarityConsistent t := by
  obtain ⟨hfollows, hunsigned, hsilent⟩ := hs
  constructor <;> simpa only [hm, hsign, ha, hb]

theorem polarityConsistent_of_mode_ne {s : State} (hm : s.mode ≠ .sine) : PolarityConsistent s :=
  ⟨fun h => absurd h hm, fun h => absurd h hm, fun h => absurd h hm⟩

theorem polarityConsistent_of_neutral {s : State} (hb : s.bridge = .neutral) : PolarityConsistent s :=
  ⟨fun _ => .inl hb, fun _ _ => hb, fun _ _ => hb⟩

/-- A repeated frame for Sine coasts at amplitude 0, and else keeps the bridge and the sign. -/
theorem PolarityConsistent.configureSine {c : Params} {s : State} (hs : PolarityConsistent s) :
    PolarityConsistent (configureSine c true s) := by
  by_cases ha : amplitude c s.dutyPercent = 0
  · exact polarityConsistent_of_neutral (by simp [configureSine_silent c ha])
  · rw [configureSine_loud c true ha]
    exact { hs with silent_neutral := fun _ h => absurd h ha }

theorem PolarityConsistent.complete {c : Params} {s : State} (hs : PolarityConsistent s) (w : Bool) (f : BitVec 3) :
    PolarityConsistent (complete c w f s) :=
  complete_rule c f s (fun _ => PolarityConsistent.configureSine (hs.congr rfl rfl rfl rfl))
    (polarityConsistent_of_neutral (by simp [configureSine_new, enterWave_sine]))
    (fun hm => polarityConsistent_of_mode_ne (by simp [hm]))
    (polarityConsistent_of_mode_ne (by simp [enterWave_square])) w

/-- A tick coasts at amplitude 0; else it routes to the polarity of a new sign, which is never 0, or keeps both. -/
theorem PolarityConsistent.sineTick {c : Params} {s : State} (hs : PolarityConsistent s) :
    PolarityConsistent (sineTick c s) := by
  by_cases hm : s.mode = .sine
  · by_cases ha : s.amp = 0
    · obtain ⟨hb, -⟩ := sineTick_output_silent c hm ha
      exact polarityConsistent_of_neutral hb
    · by_cases hsign : (Machine.sineTick c s).lastSign = s.lastSign
      · obtain ⟨hb, -⟩ := sineTick_output_hold c hm ha hsign
        exact hs.congr (sineTick_mode c s) hsign (sineTick_amp c s) hb
      · obtain ⟨hb, -⟩ := sineTick_output_cross c hm ha hsign
        exact ⟨fun _ => .inr hb, fun _ h0 => absurd h0 (sineTick_lastSign_ne_zero c hm hsign),
          fun _ h0 => absurd ((sineTick_amp c s).symm.trans h0) ha⟩
  · rwa [sineTick_other c hm]

/-- The window processor writes the bridge in Square mode only. -/
theorem PolarityConsistent.squareProcess {c : Params} {s : State} (hs : PolarityConsistent s) :
    PolarityConsistent (squareProcess c s) := by
  rcases squareProcess_cases c s with h | ⟨hm, -⟩
  · rw [h]
    exact hs.congr rfl rfl rfl rfl
  · exact polarityConsistent_of_mode_ne (by simp [hm])

/-! ## The obligations -/

/-- Settles O46: the polarity invariant by the rule for actuation invariants. -/
theorem polarityFollowsSign : Obligations.PolarityFollowsSign := fun _ _ hs h =>
  step_keeps_actuation (P := PolarityConsistent)
    (fun ⟨⟨hm, _, _, ha⟩, ⟨_, hsign⟩, _, _, _, hb, _⟩ hs => hs.congr hm hsign ha hb)
    (fun s _ => polarityConsistent_of_neutral (teardown_bridge node s)) (fun w f _ hs => hs.complete w f)
    (fun _ hs => PolarityConsistent.sineTick (hs.congr rfl rfl rfl rfl))
    (fun _ hs => hs.congr (by simp) (by simp) (by simp) (by simp))
    (fun _ hs => hs.squareProcess) (fun _ _ hs => hs.congr rfl rfl rfl rfl) (fun _ _ hs => hs.congr rfl rfl rfl rfl)
    hs h

/-- Settles O55: the service clears the request and runs the tick, which coasts. -/
theorem silentTickCoasts : Obligations.SilentTickCoasts := by
  intro s hgie hpending hm ha
  obtain ⟨hbridge, hlog, hwidth⟩ := sineTick_output_silent node (s := { s with taPending := false }) hm ha
  refine ⟨_, perform_service_timerA hgie hpending, sineTick_phase node hm, sineTick_lastSign_eq_zeroCross node hm,
    hbridge, hlog, hwidth, sineTick_taReload node hm, ?_⟩
  and_intros <;> simp [SameTransmit, SameGie]

/-- Settles O56: the service clears the request and runs the tick, which routes where the sign changes. -/
theorem sineTickRoutesOnSignChange : Obligations.SineTickRoutesOnSignChange := by
  intro s hgie hpending hm ha
  refine ⟨_, perform_service_timerA hgie hpending, sineTick_phase node hm, sineTick_lastSign_eq_zeroCross node hm,
    sineTick_pwmWidth_loud node hm ha, ?output, sineTick_taReload node hm, ?_⟩
  case output =>
    by_cases hsign : (sineTick node { s with taPending := false }).lastSign = s.lastSign
    · rw [if_pos hsign]
      exact sineTick_output_hold node hm ha hsign
    · rw [if_neg hsign]
      exact sineTick_output_cross node hm ha hsign
  and_intros <;> simp [SameTransmit, SameGie]

/-- Settles O57: the forward duty is a share of at most one whole of the amplitude. -/
theorem forwardDutyWithinAmplitude : Obligations.ForwardDutyWithinAmplitude :=
  fun c amp _ h => rnd_mul_le amp c.tablePeak_pos h

/-- Settles O58: a run keeps the mode and the amplitude, so its last tick is one at a nonzero amplitude. -/
theorem zeroCrossingLawOverRun : Obligations.ZeroCrossingLawOverRun := by
  intro c s n hm ha u t
  have hmu : u.mode = .sine := (sineRun_mode c n s).trans hm
  have hau : u.amp ≠ 0 := (sineRun_amp c n s).trans_ne ha
  have hsign : t.lastSign = zeroCross (sampleAt c t.phase) u.lastSign := sineTick_lastSign_eq_zeroCross c hmu
  refine ⟨(sineTick_phase c hmu).trans ((sineRun_phase_modEq c hm n).add_right 1), hsign,
    fun hzero => by rw [hsign, hzero, zeroCross_zero], ?_⟩
  by_cases hchange : t.lastSign = u.lastSign
  · obtain ⟨-, hlog⟩ := sineTick_output_hold c hmu hau hchange
    rw [if_pos hchange, List.append_nil]
    exact hlog
  · obtain ⟨-, hlog⟩ := sineTick_output_cross c hmu hau hchange
    rw [if_neg hchange]
    exact hlog

/-- Settles O59: by induction on the ticks, of which none changes the sign and so none routes. -/
theorem driveResumesAtCrossing : Obligations.DriveResumesAtCrossing := by
  intro c s n hm ha hneutral hkeep
  induction n with
  | zero => exact ⟨hneutral, rfl, rfl⟩
  | succ n ih =>
    obtain ⟨hb, hl, hs⟩ := ih fun k hk => hkeep k (hk.trans n.lt_succ_self)
    have hmu : (sineRun c n s).mode = .sine := (sineRun_mode c n s).trans hm
    have hau : (sineRun c n s).amp ≠ 0 := (sineRun_amp c n s).trans_ne ha
    have hsample : sampleAt c ((sineRun c n s).phase + 1) = sampleAt c (s.phase + (n + 1)) :=
      sampleAt_congr ((sineRun_phase_modEq c hm n).add_right 1)
    have hheld : (sineTick c (sineRun c n s)).lastSign = (sineRun c n s).lastSign := by
      rw [sineTick_lastSign c hmu, hsample, hs, hkeep n n.lt_succ_self]
    obtain ⟨hbridge, hlog⟩ := sineTick_output_hold c hmu hau hheld
    exact ⟨hbridge.trans hb, hlog.trans hl, hheld.trans hs⟩

/-- Settles O54: the sign by the three cases of the sample. -/
theorem zeroSampleInheritsSign : Obligations.ZeroSampleInheritsSign := by
  intro x last
  refine ⟨fun h => zeroCross_of_pos h last, fun h => zeroCross_of_neg h last, fun h => h ▸ zeroCross_zero last,
    fun hzero => ?_⟩
  rcases lt_trichotomy x 0 with h | rfl | h
  · exact absurd ((zeroCross_of_neg h last).symm.trans hzero) nofun
  · exact ⟨rfl, hzero⟩
  · exact absurd ((zeroCross_of_pos h last).symm.trans hzero) nofun

end Sys2Proof.Machine

/-! PROOFS. Interrupts, the environment and the host (60_exceptions.md): which moves are served, what sets a request and
what clears one, and that every step answers a next state. -/

namespace Sys2Proof.Machine

open Sys2Proof.Config

/-! ## Requests (R232, R233) -/

theorem serviceable_iff {src : Source} {s : State} :
    serviceable src s = true ↔ s.gie = true ∧ requested src s = true := by
  simp [serviceable]

/-- Two states with the same receive and timer requests agree on every source's request. -/
theorem requested_congr {s t : State} (hrx : t.rxPending = s.rxPending) (ht : SameTimerRequests s t) (src : Source) :
    requested src t = requested src s := by
  obtain ⟨hta, htb⟩ := ht
  cases src <;> assumption

@[simp] theorem requested_takeAction (src : Source) (s : State) : requested src (takeAction s) = requested src s :=
  requested_congr (by simp) ⟨by simp, by simp⟩ src

/-- Clearing the receiver leaves the timers' requests. -/
theorem requested_clearRx {src : Source} (h : src ≠ .rx) (s : State) : requested src (clearRx s) = requested src s := by
  cases src with
  | rx => exact absurd rfl h
  | timerA | timerB => rfl

/-! ## What clears a request (R100, R163, R238) -/

/-- A completed frame of the running mode leaves the timer requests as they were. -/
theorem complete_keeps_timerRequests (c : Params) {w : Bool} (f : BitVec 3) {s : State} (h : s.mode = waveMode w) :
    SameTimerRequests s (complete c w f s) := by
  cases w with
  | true => rw [complete_sine_same c f h]; exact ⟨by simp, by simp⟩
  | false => rw [complete_square_same c f h]; exact ⟨by simp, by simp⟩

/-- A command that clears a request leaves the mode: it is STOP, which ends Idle, or DATA2 of another mode. -/
theorem exec_keeps_requests {i : Instr} {s t : State} (h : exec i s = .next t) (hmode : t.mode = s.mode)
    (hrun : t.mode ≠ .idle) (src : Source) : requested src t = requested src s := by
  obtain ⟨⟨hrx, -⟩, -⟩ := exec_surroundings h
  refine requested_congr hrx ?_ src
  cases i with
  | stop => cases h; exact absurd (teardown_mode node s) hrun
  | data2 r w f =>
    cases h
    exact complete_keeps_timerRequests node f (hmode.symm.trans (configured_complete node w f s).mode_eq)
  | addrFwd | start | dataPass | data1 => cases h; exact ⟨rfl, rfl⟩

/-- The receive handler clears its own request, whatever the byte does. -/
theorem rxHandler_clears_rxPending {s t : State} (h : rxHandler s = .next t) : t.rxPending = false := by
  rcases rxVerdict_cases s with hr | ⟨-, hr⟩ <;> rw [hr] at h
  · cases h; rfl
  · obtain ⟨⟨hrx, -⟩, -⟩ := exec_surroundings h
    exact hrx

/-- A step that clears a request serves that source, or it is a timer's and a received byte leaves the mode. -/
theorem step_clears_request {s t : State} {src : Source} (h : step s = .next t) (hset : requested src s = true)
    (hclear : requested src t = false) :
    nextAction s = .service src ∨
      (src ≠ .rx ∧ nextAction s = .service .rx ∧ (t.mode ≠ s.mode ∨ t.mode = .idle)) := by
  have hchanged : requested src t ≠ requested src s := by simp [hset, hclear]
  rcases step_cases h with rfl | ⟨ha, -, -, rfl⟩ | ⟨ha, -, -, he⟩ | ⟨ha, -, -, rfl⟩ | ⟨ha, -, -, rfl⟩ | hother
  · exact absurd (requested_takeAction src s) hchanged
  · by_cases hsrc : src = .rx
    · exact .inl (hsrc ▸ ha)
    · exact absurd (by rw [requested_clearRx hsrc, requested_takeAction]) hchanged
  · by_cases hsrc : src = .rx
    · exact .inl (hsrc ▸ ha)
    · refine .inr ⟨hsrc, ha, or_iff_not_and_not.2 ?_⟩
      rintro ⟨hmode, hrun⟩
      apply hchanged
      rw [exec_keeps_requests he (by simpa using hmode) hrun, requested_clearRx hsrc, requested_takeAction]
  · cases src with
    | timerA => exact .inl ha
    | rx | timerB => exact absurd (by simp [requested]) hchanged
  · cases src with
    | timerB => exact .inl ha
    | rx | timerA => exact absurd (by simp [requested]) hchanged
  · -- The window processor and the host keep every request; an arrival and an expiry set one.
    rcases hother with ⟨-, -, rfl⟩ | ⟨b, fe, pe, -, rfl⟩ | ⟨-, -, rfl⟩ | ⟨-, -, rfl⟩ | ⟨v, -, rfl⟩ | ⟨-, rfl⟩ <;>
      cases src <;> simp_all [requested, rxArrive_rxPending]

/-! ## Every move answers a next state (R230, R240) -/

theorem rxHandler_answers (s : State) : ∃ t, rxHandler s = .next t := by
  rcases rxVerdict_cases s with hr | ⟨-, hr⟩
  · exact ⟨_, hr⟩
  · obtain ⟨t, ht, -⟩ := exec_forwards (decodeByte s.pstate s.rxBuf) (clearRx s)
    exact ⟨t, hr.trans ht⟩

theorem service_answers (src : Source) (s : State) : ∃ t, service src s = .next t := by
  cases src with
  | rx => exact rxHandler_answers s
  | timerA | timerB => exact ⟨_, rfl⟩

theorem perform_answers (a : Action) (s : State) : ∃ t, perform a s = .next t := by
  cases a with
  | service src =>
    by_cases hs : serviceable src s = true
    · rw [perform_service hs]; exact service_answers src s
    · exact ⟨s, perform_service_disabled hs⟩
  | process | rxArrive | expireA | expireB | hostSetGie | hostAckColor => exact ⟨_, rfl⟩

/-! ## The environment's moves (R234 to R236) -/

/-- A full receiver keeps its byte and is marked as overrun. -/
theorem rxArrive_full (b : Byte) (fe pe : Bool) {s : State} (h : s.rxPending = true) :
    rxArrive b fe pe s = { s with rxOerr := true } := if_pos h

/-- An empty receiver takes the byte and its verdicts. -/
theorem rxArrive_empty (b : Byte) (fe pe : Bool) {s : State} (h : s.rxPending = false) :
    rxArrive b fe pe s = { s with rxBuf := b, rxFerr := fe, rxPerr := pe, rxPending := true } :=
  if_neg (Bool.eq_false_iff.1 h)

theorem expireA_eq (s : State) : expireA s = { s with taPending := s.taPending || s.taEn } := by
  unfold expireA
  split
  next hen => simp [hen]
  next hen => rw [show (s.taPending || s.taEn) = s.taPending by simp [hen]]

theorem expireB_eq (s : State) : expireB s = { s with tbPending := s.tbPending || s.tbEn } := by
  unfold expireB
  split
  next hen => simp [hen]
  next hen => rw [show (s.tbPending || s.tbEn) = s.tbPending by simp [hen]]

/-! ## The statements -/

/-- Settles O11: each agent's move answers a next state, and every step is one. -/
theorem everyStepAnswersNext : Obligations.EveryStepAnswersNext := fun s =>
  perform_answers (nextAction s) (takeAction s)

/-- Settles O33: a service clears its own request, and only a byte that leaves the mode clears another. -/
theorem requestsClearedByServiceOnly : Obligations.RequestsClearedByServiceOnly :=
  ⟨fun _ => ⟨rfl, rfl⟩, fun c s => ⟨rfl, rfl, sineTick_taPending c s, squareTick_tbPending s⟩,
    fun _ _ => rxHandler_clears_rxPending, fun _ _ _ => step_clears_request⟩

/-- Settles O10: `serviceable` is `gie` with the request, and taking the move changes neither. -/
theorem serviceNeedsGieAndRequest : Obligations.ServiceNeedsGieAndRequest := by
  intro s src ha
  have hserve : serviceable src (takeAction s) = true ↔ s.gie = true ∧ requested src s = true := by
    simp [serviceable_iff]
  rw [step, ha]
  constructor
  · refine fun hoff => perform_service_disabled fun hs => ?_
    simp [hserve.1 hs] at hoff
  · exact fun hgie hreq => perform_service (hserve.2 ⟨hgie, hreq⟩)

/-- Settles O29: the two cases of an arrival, on a full and on an empty receiver. -/
theorem byteArrivalLatchesOrOverruns : Obligations.ByteArrivalLatchesOrOverruns := by
  intro b fe pe s
  refine ⟨rxArrive b fe pe s, rfl, rxArrive_rxPending b fe pe s, ?_⟩
  cases h : s.rxPending with
  | true => rw [rxArrive_full b fe pe h]; and_intros <;> simp
  | false => rw [rxArrive_empty b fe pe h]; and_intros <;> simp

/-- Settles O30: an expiry joins the enable into the request, which is idempotent. -/
theorem timerExpiryCoalesces : Obligations.TimerExpiryCoalesces := fun s =>
  ⟨congrArg _ (expireA_eq s), congrArg _ (expireB_eq s), by simp [expireA_eq],
    by simp [expireB_eq]⟩

/-- Settles O31: each host step is one record update. -/
theorem hostStepsTouchOnlyTheirFields : Obligations.HostStepsTouchOnlyTheirFields :=
  ⟨fun v s => ⟨hostSetGie v s, rfl, by and_intros <;> rfl⟩, fun s => ⟨hostAckColor s, rfl, by and_intros <;> rfl⟩⟩

end Sys2Proof.Machine

/-! PROOFS. Reset and hazards (70_reset_and_hazards.md): what can happen at reset, who writes the actuation registers,
and that no step reads the timer values. -/

namespace Sys2Proof.Machine

open Sys2Proof.Config

/-! ## States that differ in the timer values alone (R290) -/

/-- `t` is `s` but for the reload of timer A and the period of timer B. -/
def EqualButTimerValues (s t : State) : Prop := ∃ x y, t = { s with taReload := x, tbPeriod := y }

namespace EqualButTimerValues

/-- A guard that both states decide alike leads to such states if each branch does. -/
theorem ite {p : Prop} [Decidable p] {s t s' t' : State} (hs : EqualButTimerValues s s')
    (ht : EqualButTimerValues t t') : EqualButTimerValues (if p then s else t) (if p then s' else t') := by
  split
  · exact hs
  · exact ht

/-! In each of the following the operation's own guards read no timer value, so both states take the same branch. -/

section Operations

variable {s t : State}

theorem takeAction (h : EqualButTimerValues s t) : EqualButTimerValues (takeAction s) (takeAction t) := by
  obtain ⟨x, y, rfl⟩ := h
  unfold Machine.takeAction
  cases s.agenda with
  | nil => exact ⟨x, y, rfl⟩
  | cons a rest => exact ⟨x, y, rfl⟩

theorem rxArrive (h : EqualButTimerValues s t) (b : Byte) (fe pe : Bool) :
    EqualButTimerValues (rxArrive b fe pe s) (rxArrive b fe pe t) := by
  obtain ⟨x, y, rfl⟩ := h
  exact ite ⟨x, y, rfl⟩ ⟨x, y, rfl⟩

theorem expireA (h : EqualButTimerValues s t) : EqualButTimerValues (expireA s) (expireA t) := by
  obtain ⟨x, y, rfl⟩ := h
  exact ite ⟨x, y, rfl⟩ ⟨x, y, rfl⟩

theorem expireB (h : EqualButTimerValues s t) : EqualButTimerValues (expireB s) (expireB t) := by
  obtain ⟨x, y, rfl⟩ := h
  exact ite ⟨x, y, rfl⟩ ⟨x, y, rfl⟩

theorem routeOnCrossing (h : EqualButTimerValues s t) (sg : Sign) :
    EqualButTimerValues (routeOnCrossing sg s) (routeOnCrossing sg t) := by
  obtain ⟨x, y, rfl⟩ := h
  exact ite ⟨x, y, rfl⟩ ⟨x, y, rfl⟩

theorem setPwm (h : EqualButTimerValues s t) (c : Params) (w : Nat) :
    EqualButTimerValues (setPwm c w s) (setPwm c w t) := by
  obtain ⟨x, y, rfl⟩ := h
  exact ⟨x, y, rfl⟩

theorem driveSample (h : EqualButTimerValues s t) (c : Params) (z : Int) :
    EqualButTimerValues (driveSample c z s) (driveSample c z t) := by
  have hroute := h.routeOnCrossing (zeroCross z s.lastSign)
  obtain ⟨x, y, rfl⟩ := h
  exact ite ⟨x, y, rfl⟩ (hroute.setPwm c _)

theorem advancePhase (h : EqualButTimerValues s t) (c : Params) :
    EqualButTimerValues (advancePhase c s) (advancePhase c t) := by
  obtain ⟨x, y, rfl⟩ := h
  exact ⟨sineReloadAt c s.freqIndex, y, rfl⟩

theorem sineTick (h : EqualButTimerValues s t) (c : Params) :
    EqualButTimerValues (sineTick c s) (sineTick c t) := by
  have hdrive := (h.advancePhase c).driveSample c (sampleAt c (Machine.advancePhase c s).phase)
  obtain ⟨x, y, rfl⟩ := h
  exact ite ⟨x, y, rfl⟩ hdrive

theorem squareTick (h : EqualButTimerValues s t) : EqualButTimerValues (squareTick s) (squareTick t) := by
  obtain ⟨x, y, rfl⟩ := h
  exact ite ⟨x, y, rfl⟩ ⟨x, y, rfl⟩

theorem applyWindow (h : EqualButTimerValues s t) (c : Params) (on : Bool) (half : Half) :
    EqualButTimerValues (applyWindow c on half s) (applyWindow c on half t) := by
  obtain ⟨x, y, rfl⟩ := h
  cases on with
  | true => exact ⟨x, y, rfl⟩
  | false => exact ⟨x, y, rfl⟩

theorem squareProcess (h : EqualButTimerValues s t) (c : Params) :
    EqualButTimerValues (squareProcess c s) (squareProcess c t) := by
  obtain ⟨x, y, rfl⟩ := h
  have hcleared : EqualButTimerValues { s with squarePending := false }
      { s with squarePending := false, taReload := x, tbPeriod := y } := ⟨x, y, rfl⟩
  exact ite hcleared (ite hcleared (hcleared.applyWindow c _ _))

theorem teardown (h : EqualButTimerValues s t) (c : Params) :
    EqualButTimerValues (teardown c s) (teardown c t) := by
  obtain ⟨x, y, rfl⟩ := h
  exact ite ⟨x, y, rfl⟩ ⟨x, y, rfl⟩

theorem enterWave (h : EqualButTimerValues s t) (c : Params) (w : Bool) :
    EqualButTimerValues (enterWave c w s) (enterWave c w t) := by
  obtain ⟨x, y, rfl⟩ := h
  exact ite ⟨x, y, rfl⟩ ⟨x, y, rfl⟩

theorem recordFrame (h : EqualButTimerValues s t) (c : Params) (f : BitVec 3) :
    EqualButTimerValues (recordFrame c f s) (recordFrame c f t) := by
  obtain ⟨x, y, rfl⟩ := h
  exact ⟨x, y, rfl⟩

theorem configureSine (h : EqualButTimerValues s t) (c : Params) (same : Bool) :
    EqualButTimerValues (configureSine c same s) (configureSine c same t) := by
  obtain ⟨x, y, rfl⟩ := h
  exact ite ⟨sineReloadAt c s.freqIndex, y, rfl⟩ ⟨sineReloadAt c s.freqIndex, y, rfl⟩

theorem configureSquare (h : EqualButTimerValues s t) (c : Params) (same : Bool) :
    EqualButTimerValues (configureSquare c same s) (configureSquare c same t) := by
  obtain ⟨x, y, rfl⟩ := h
  exact ite ⟨x, squarePeriodAt c s.freqIndex, rfl⟩ ⟨x, squarePeriodAt c s.freqIndex, rfl⟩

theorem complete (h : EqualButTimerValues s t) (c : Params) (w : Bool) (f : BitVec 3) :
    EqualButTimerValues (complete c w f s) (complete c w f t) := by
  have hrecorded := (ite (p := decide (s.mode = waveMode w) = true) h (h.enterWave c w)).recordFrame c f
  obtain ⟨x, y, rfl⟩ := h
  exact ite (hrecorded.configureSine c _) (hrecorded.configureSquare c _)

theorem withPState (h : EqualButTimerValues s t) (p : PState) :
    EqualButTimerValues { s with pstate := p } { t with pstate := p } := by
  obtain ⟨x, y, rfl⟩ := h
  exact ⟨x, y, rfl⟩

/-- Every command takes two such states to two such states. -/
theorem exec {i : Instr} {s' : State} (h : EqualButTimerValues s t) (hs : exec i s = .next s') :
    ∃ t', exec i t = .next t' ∧ EqualButTimerValues s' t' := by
  cases i with
  | stop => cases hs; exact ⟨_, rfl, (h.teardown node).withPState .idle⟩
  | data2 r w f => cases hs; exact ⟨_, rfl, (h.complete node w f).withPState .idle⟩
  | addrFwd | start | dataPass | data1 => cases hs; obtain ⟨x, y, rfl⟩ := h; exact ⟨_, rfl, x, y, rfl⟩

theorem rxHandler {s' : State} (h : EqualButTimerValues s t) (hs : rxHandler s = .next s') :
    ∃ t', rxHandler t = .next t' ∧ EqualButTimerValues s' t' := by
  obtain ⟨x, y, rfl⟩ := h
  have hcleared : EqualButTimerValues (clearRx s) (clearRx { s with taReload := x, tbPeriod := y }) := ⟨x, y, rfl⟩
  by_cases hv : rxVerdict node.parityEnabled s = .accepted
  · rw [rxHandler_accepted hv] at hs
    rw [rxHandler_accepted (s := { s with taReload := x, tbPeriod := y }) hv]
    exact hcleared.exec hs
  · rw [rxHandler_rejected hv] at hs
    cases hs
    exact ⟨_, rxHandler_rejected (s := { s with taReload := x, tbPeriod := y }) hv, hcleared⟩

theorem service {src : Source} {s' : State} (h : EqualButTimerValues s t) (hs : service src s = .next s') :
    ∃ t', service src t = .next t' ∧ EqualButTimerValues s' t' := by
  cases src with
  | rx => exact h.rxHandler hs
  | timerA =>
    cases hs
    obtain ⟨x, y, rfl⟩ := h
    exact ⟨_, rfl, sineTick ⟨x, y, rfl⟩ node⟩
  | timerB =>
    cases hs
    obtain ⟨x, y, rfl⟩ := h
    exact ⟨_, rfl, squareTick ⟨x, y, rfl⟩⟩

theorem serviceable_eq (h : EqualButTimerValues s t) (src : Source) : serviceable src t = serviceable src s := by
  obtain ⟨x, y, rfl⟩ := h
  cases src <;> rfl

/-- Every move of every agent takes two such states to two such states. -/
theorem perform {a : Action} {s' : State} (h : EqualButTimerValues s t) (hs : perform a s = .next s') :
    ∃ t', perform a t = .next t' ∧ EqualButTimerValues s' t' := by
  cases a with
  | service src =>
    by_cases hen : serviceable src s = true
    · rw [perform_service hen] at hs
      rw [perform_service ((h.serviceable_eq src).trans hen)]
      exact h.service hs
    · rw [perform_service_disabled hen] at hs
      cases hs
      exact ⟨t, perform_service_disabled (by rwa [h.serviceable_eq]), h⟩
  | process =>
    cases hs
    have hprocessed := h.squareProcess node
    obtain ⟨x, y, rfl⟩ := h
    exact ⟨_, rfl, ite hprocessed ⟨x, y, rfl⟩⟩
  | rxArrive b fe pe => cases hs; exact ⟨_, rfl, h.rxArrive b fe pe⟩
  | expireA => cases hs; exact ⟨_, rfl, h.expireA⟩
  | expireB => cases hs; exact ⟨_, rfl, h.expireB⟩
  | hostSetGie | hostAckColor => cases hs; obtain ⟨x, y, rfl⟩ := h; exact ⟨_, rfl, x, y, rfl⟩

end Operations

end EqualButTimerValues

/-! ## Who writes the actuation registers (R285) -/

/-- What the waveforms hold and drive, but for the timers' requests. -/
def SameDrive (s t : State) : Prop :=
  SameOutput s t ∧ SameTimerControls s t ∧ SameEngine s t ∧ SameSine s t ∧ SameSquare s t

theorem sameDrive_takeAction_iff {s t : State} : SameDrive (takeAction s) t ↔ SameDrive s t := by
  simp [SameDrive, SameOutput, SameTimerControls, SameEngine, SameSine, SameSquare]

theorem SameDrive.pwmCompare_eq {s t : State} (h : SameDrive s t) (c : Params) : pwmCompare c t = pwmCompare c s := by
  obtain ⟨⟨-, hwidth, -⟩, -⟩ := h
  simp only [pwmCompare, hwidth]

/-- The environment and the host leave the drive alone. -/
theorem perform_sameDrive {a : Action} {s t : State} (hservice : ∀ src, a ≠ .service src) (hprocess : a ≠ .process)
    (h : perform a s = .next t) : SameDrive s t := by
  cases a with
  | service src => exact absurd rfl (hservice src)
  | process => exact absurd rfl hprocess
  | rxArrive | expireA | expireB | hostSetGie | hostAckColor => cases h; and_intros <;> simp

/-! ## The statements -/

/-- Settles O60: taking the move, and then the move, take states that differ in the timer values to such states. -/
theorem timerValuesUnread : Obligations.TimerValuesUnread := by
  intro s t x y h
  have htaken : EqualButTimerValues (takeAction s) (takeAction { s with taReload := x, tbPeriod := y }) :=
    EqualButTimerValues.takeAction ⟨x, y, rfl⟩
  obtain ⟨_, hstep, x', y', rfl⟩ := htaken.perform h
  exact ⟨x', y', hstep⟩

/-- Settles O34: the moves that are left are the environment's and the host's. -/
theorem environmentLeavesActuation : Obligations.EnvironmentLeavesActuation := by
  intro s t h hservice hprocess
  have hdrive : SameDrive s t := sameDrive_takeAction_iff.1 (perform_sameDrive hservice hprocess h)
  exact ⟨hdrive.pwmCompare_eq node, hdrive⟩

/-- Settles O2: at reset interrupts are off, no window waits and both timers are off. -/
theorem resetAwaitsLineOrHost : Obligations.ResetAwaitsLineOrHost :=
  ⟨fun _ => perform_service_disabled Bool.false_ne_true, perform_process_disabled Bool.false_ne_true, rfl, rfl⟩

end Sys2Proof.Machine
